-- ==== Sys2Proof/Word.lean ====
section
/-! DEFINITION. The word sizes of the machine (00_scope.md R6) and the register number. -/

namespace Sys2Proof

/-- 8 bits. -/
abbrev Byte := BitVec 8

/-- 16 bits. -/
abbrev Half := BitVec 16

/-- 32 bits: also an instruction word, an address and a control register. -/
abbrev Word := BitVec 32

/-- 64 bits: what a non-parallel integer instruction reads and writes of a general register. -/
abbrev Dword := BitVec 64

/-- 128 bits: a general register, HI, LO (10_state.md R20, R30). -/
abbrev Quad := BitVec 128

/-- A byte address (20_memory.md R60). -/
abbrev Addr := BitVec 32

/-- A register number 0 to 31 (10_state.md R20, R34, R40). -/
abbrev Reg := BitVec 5

end Sys2Proof
end

