-- ==== Sys2Proof/Machine/Bits.lean ====
section
/-! DEFINITION. Bit-level helpers: bits and fields of a word, extension, the lanes of a 128-bit value (00_scope.md R7 to R9). -/

namespace Sys2Proof.Machine

/-- `w` with bit `k` replaced by `b`. -/
def setBit (w : Word) (k : Nat) (b : Bool) : Word :=
  if b then w ||| (1#32 <<< k) else w &&& ~~~(1#32 <<< k)

/-- `w` with the field that starts at bit `lo` replaced by `v`. -/
def putField (w : Word) (lo : Nat) {n : Nat} (v : BitVec n) : Word :=
  (w &&& ~~~((BitVec.allOnes n).setWidth 32 <<< lo)) ||| (v.setWidth 32 <<< lo)

/-- `sext_64` of a word (00_scope.md R8). -/
def sext64 (v : Word) : Dword := v.signExtend 64

/-- `zext_64` of a word (00_scope.md R8). -/
def zext64 (v : Word) : Dword := v.setWidth 64

/-- `q.D[0]`: bits 63:0. -/
def lowD (q : Quad) : Dword := q.extractLsb' 0 64

/-- `q.D[1]`: bits 127:64. -/
def highD (q : Quad) : Dword := q.extractLsb' 64 64

/-- `h ‖ l`. -/
def joinD (h l : Dword) : Quad := h ++ l

/-- `q` with bits 63:0 replaced. -/
def withLowD (q : Quad) (d : Dword) : Quad := joinD (highD q) d

/-- `q` with bits 127:64 replaced. -/
def withHighD (q : Quad) (d : Dword) : Quad := joinD d (lowD q)

/-- Bits 31:0 of a doubleword. -/
def lowW (d : Dword) : Word := d.extractLsb' 0 32

/-- Bits 63:32 of a doubleword. -/
def highW (d : Dword) : Word := d.extractLsb' 32 32

/-- `h ‖ l`. -/
def joinW (h l : Word) : Dword := h ++ l

/-- Lane `k` of width `w`, counted from the least significant end: `q.B[k]`, `q.H[k]`, `q.W[k]`, `q.D[k]` with `w` = 8, 16,
32, 64 (00_scope.md R9, 48_parallel_arith.md R390). -/
def lane (w : Nat) (q : Quad) (k : Nat) : BitVec w := q.extractLsb' (w * k) w

/-- The 128-bit value whose lanes 0 to `n - 1` of width `w` are `g 0` to `g (n - 1)` and whose other bits are 0. -/
def packLanes (w : Nat) (g : Nat → BitVec w) : Nat → Quad
  | 0 => 0
  | n + 1 => packLanes w g n ||| ((g n).setWidth 128 <<< (w * n))

/-- Sixteen byte lanes. -/
def bytes16 (g : Nat → Byte) : Quad := packLanes 8 g 16

/-- Eight halfword lanes. -/
def halves8 (g : Nat → Half) : Quad := packLanes 16 g 8

/-- Four word lanes. -/
def words4 (g : Nat → Word) : Quad := packLanes 32 g 4

end Sys2Proof.Machine
end

