-- ==== Sys2Proof/Config.lean ====
section
/-! DEFINITION. What the spec leaves to the implementation (00_scope.md R6, R13; 93_implementation_defined.md). Every value
below is a constant without a body: nothing can be proved of it but what holds for every such constant. -/

namespace Sys2Proof

/-- The conditions a floating-point operation raises, a subset of I, D, O, U (47_fpu.md R350). -/
structure FpFlags where
  /-- I, invalid operation. -/
  invalid : Bool
  /-- D, division by zero. -/
  divZero : Bool
  /-- O, overflow. -/
  overflow : Bool
  /-- U, underflow. -/
  underflow : Bool
  deriving DecidableEq, Repr, Inhabited

/-- The cases of `DivCorner` (93_implementation_defined.md U1, U2, U17). -/
inductive DivCase where
  /-- DIV, DIV1, PDIVW with divisor 0. -/
  | divByZero
  /-- DIV, DIV1, PDIVW of -2^31 by -1. -/
  | divOverflow
  /-- DIVU, DIVU1, PDIVUW with divisor 0. -/
  | divuByZero
  /-- PDIVBW with divisor 0. -/
  | pdivbwByZero
  deriving DecidableEq, Repr

namespace Config

/-! ## Functions of the operands -/

/-- `DivCorner`: quotient and remainder where the rules leave them open, a function of the case, the dividend and the
divisor (92_eei_decisions.md D14; log entry 9). -/
opaque divCorner : DivCase → Int → Int → Int × Int

/-- `FpNumerics` (47_fpu.md R350; log entry 10): the sum of two operands. -/
opaque fadd : Word → Word → Word × FpFlags

/-- `FpNumerics`: the first operand less the second. -/
opaque fsub : Word → Word → Word × FpFlags

/-- `FpNumerics`: the product. -/
opaque fmul : Word → Word → Word × FpFlags

/-- `FpNumerics`: the first operand divided by the second. -/
opaque fdiv : Word → Word → Word × FpFlags

/-- `FpNumerics`: the square root. -/
opaque fsqrt : Word → Word × FpFlags

/-- `FpNumerics`: the first operand divided by the square root of the second. -/
opaque frsqrt : Word → Word → Word × FpFlags

/-- `FpNumerics`: `fmadd c a b` is c + a × b. -/
opaque fmadd : Word → Word → Word → Word × FpFlags

/-- `FpNumerics`: `fmsub c a b` is c − a × b. -/
opaque fmsub : Word → Word → Word → Word × FpFlags

/-- `FpNumerics`: whether the maximum of two operands is the first of them; else it is the second (47_fpu.md R375). -/
opaque fmaxIsFirst : Word → Word → Bool

/-- `FpNumerics`: whether the minimum of two operands is the first of them; else it is the second (47_fpu.md R376). -/
opaque fminIsFirst : Word → Word → Bool

/-- `FpNumerics`: a fixed-point word to single. -/
opaque cvtSW : Word → Word × FpFlags

/-- `FpNumerics`: a single to a fixed-point word. -/
opaque cvtWS : Word → Word × FpFlags

/-- `feq` on the operands for which 47_fpu.md R362 states no value (log entry 11). -/
opaque feqSpecial : Word → Word → Bool

/-- `flt` on the operands for which 47_fpu.md R363 states no value (log entry 11). -/
opaque fltSpecial : Word → Word → Bool

/-- The table behind `SaImage` (93_implementation_defined.md U7; log entry 12). -/
opaque saPattern : BitVec 4 → Dword

/-! ## Constants of the part -/

/-- Bits 15:0 of PRId (10_state.md R47; log entry 13). -/
opaque prid16 : BitVec 16

/-- Bits 15:0 of FCR0 (10_state.md R35; log entry 13). -/
opaque fcr016 : BitVec 16

/-! ## Draws: functions of the number of draws made so far (log entry 8) -/

/-- `UNSPEC_32(count)` (10_state.md R46). -/
opaque count : Nat → Word

/-- `UNSPEC_32(c0_reserved)` (10_state.md R51). -/
opaque c0Reserved : Nat → Word

/-- `UNSPEC_32(perf)` (10_state.md R49). -/
opaque perf : Nat → Word

/-- `UNSPEC_32(fcr_reserved, fs)` (47_fpu.md R354). -/
opaque fcrReserved : Reg → Nat → Word

/-- `UNSPEC_32(phm_lo1)`, `(phm_lo3)`: word lane 1 or 3 of LO (49_parallel_muldiv_pack.md R469, R470). -/
opaque phmLo : Nat → Nat → Word

/-- `UNSPEC_32(phm_hi1)`, `(phm_hi3)`: word lane 1 or 3 of HI (49_parallel_muldiv_pack.md R469, R470). -/
opaque phmHi : Nat → Nat → Word

/-- `UNSPEC(mtsa_foreign_value)`, one of the 16 values of SA (49_parallel_muldiv_pack.md R532). -/
opaque mtsaForeign : Nat → BitVec 4

/-- `CpCond0` (10_state.md R45). -/
opaque cpCond0 : Nat → Bool

/-- What a device answers to the read of the byte at an address (20_memory.md R70; log entry 5). -/
opaque deviceByte : Nat → Nat → Byte

/-- Cause.CE after a level-1 exception other than CoprocessorUnusable: unspecified (60_exceptions.md R542), but never 3
(90_conflicts.md C33); log entry 15. -/
opaque causeCe : Nat → Fin 3

end Config

end Sys2Proof
end

