-- ==== Sys2Proof/Machine/State.lean ====
section
/-! DEFINITION. The state of the machine as plain data (10_state.md), the reasons a step can stop, and the state right
after reset (10_state.md R54). -/

namespace Sys2Proof.Machine

/-! ## Coprocessor 0 (10_state.md R40) -/

/-- The system-control registers that hold state. -/
structure Cop0 where
  /-- Status, C0[12] (10_state.md R41). -/
  status : Word
  /-- Cause, C0[13] (10_state.md R42), but for IP[2] and IP[3], which follow the lines `int0` and `int1`. -/
  cause : Word
  /-- EPC, C0[14] (10_state.md R43). -/
  epc : Word
  /-- ErrorEPC, C0[30] (10_state.md R43). -/
  errorEpc : Word
  /-- BadVAddr, C0[8] (10_state.md R44). -/
  badVAddr : Word
  /-- BadPAddr, C0[23] (10_state.md R44). -/
  badPAddr : Word
  /-- Count, C0[9]: the last value written; a read of Count is a draw (10_state.md R46). -/
  count : Word
  /-- Compare, C0[11] (10_state.md R46). -/
  compare : Word
  /-- Config, C0[16] (10_state.md R47). -/
  config : Word
  deriving DecidableEq, Repr

/-- The breakpoint registers, C0[24] (10_state.md R48). -/
structure DebugRegs where
  /-- Breakpoint Control. -/
  bpc : Word
  /-- Instruction Address Breakpoint. -/
  iab : Word
  /-- Instruction Address Breakpoint Mask. -/
  iabm : Word
  /-- Data Address Breakpoint. -/
  dab : Word
  /-- Data Address Breakpoint Mask. -/
  dabm : Word
  /-- Data Value Breakpoint. -/
  dvb : Word
  /-- Data Value Breakpoint Mask. -/
  dvbm : Word
  deriving DecidableEq, Repr

/-- The performance registers, C0[25] (10_state.md R49). -/
structure PerfRegs where
  /-- Performance Event Specifier. -/
  pccr : Word
  /-- Performance Counter 0. -/
  pcr0 : Word
  /-- Performance Counter 1. -/
  pcr1 : Word
  deriving DecidableEq, Repr

/-! ## Memory and the environment -/

/-- Memory contents: the listed bytes, by rising address (20_memory.md R60). -/
abbrev Memory := List Host.Cell

/-- What `MemMap` says of an access (20_memory.md R70). -/
inductive RegionClass where
  /-- Ordinary memory. -/
  | ram
  /-- The environment answers reads with a draw and absorbs writes. -/
  | device
  /-- Nothing is there: a bus error, or a stop while BEM masks it. -/
  | absent
  deriving DecidableEq, Repr

/-- The kinds of access `MemMap` distinguishes (20_memory.md R70). -/
inductive AccessKind where
  /-- An instruction fetch. -/
  | fetch
  /-- A data load. -/
  | load
  /-- A data store. -/
  | store
  deriving DecidableEq, Repr

/-- One region of the parameter `MemMap`: the accesses that start in the `size` bytes from `base`, move at least `least` and at
most `most` bytes, and are of a kind it names (log entry 4). -/
structure MemRegion where
  /-- First address. -/
  base : Nat
  /-- Number of bytes. -/
  size : Nat
  /-- The fewest bytes of the accesses it speaks of. -/
  least : Nat
  /-- The most bytes of the accesses it speaks of. -/
  most : Nat
  /-- Whether the region speaks of fetches. -/
  fetch : Bool
  /-- Whether the region speaks of loads. -/
  load : Bool
  /-- Whether the region speaks of stores. -/
  store : Bool
  /-- What is there. -/
  cls : RegionClass
  deriving DecidableEq, Repr

/-- What the inputs of the core do at one step (60_exceptions.md R546, R550, R565; log entries 6, 7, 24). -/
structure EnvTick where
  /-- The reset input is asserted. -/
  reset : Bool
  /-- The NMI input is asserted. -/
  nmi : Bool
  /-- Bit 31 of an enabled performance counter has become 1. -/
  perfOverflow : Bool
  /-- A data-write, data-read or instruction breakpoint matches: bits 2, 1, 0 as in BPC. -/
  debugHit : BitVec 3
  /-- The level of line Int0. -/
  int0 : Bool
  /-- The level of line Int1. -/
  int1 : Bool
  /-- Count has reached Compare. -/
  timerMatch : Bool
  deriving DecidableEq, Repr

/-! ## The state -/

/-- Everything the spec gives the machine (INVENTORY.md, State), and the model's own field `draws`. -/
structure State where
  /-- x[0] to x[31], 128 bits each; read and written through `State.readQ` and `State.writeQ` (10_state.md R20, R21). -/
  gpr : Vector Quad 32
  /-- The address of the instruction being executed (10_state.md R25). -/
  pc : Addr
  /-- The address of the instruction after it (10_state.md R26). -/
  npc : Addr
  /-- The instruction at `pc` stands in a delay slot (10_state.md R26). -/
  bd : Bool
  /-- HI, with HI1 in bits 127:64 (10_state.md R30, R31). -/
  hi : Quad
  /-- LO, with LO1 in bits 127:64 (10_state.md R30, R31). -/
  lo : Quad
  /-- SA as a byte count: SA is 8 times it (10_state.md R32). -/
  saBytes : BitVec 4
  /-- f[0] to f[31] (10_state.md R34). -/
  fpr : Vector Word 32
  /-- ACC (10_state.md R34). -/
  acc : Word
  /-- FCR31 (10_state.md R36). -/
  fcr31 : Word
  /-- The system-control registers. -/
  cop0 : Cop0
  /-- The breakpoint registers. -/
  dbg : DebugRegs
  /-- The performance registers. -/
  perf : PerfRegs
  /-- Memory. -/
  mem : Memory
  /-- The addresses that a store of this run has written, rising (20_memory.md R78). -/
  stored : List Nat
  /-- The parameter `MemMap`. -/
  memMap : List MemRegion
  /-- The level of line Int0 (60_exceptions.md R546). -/
  int0 : Bool
  /-- The level of line Int1 (60_exceptions.md R546). -/
  int1 : Bool
  /-- What the inputs do at the coming steps, one entry per step; nothing happens after the last (log entry 6). -/
  env : List EnvTick
  /-- The model's own: how many free values have been drawn (log entry 8). -/
  draws : Nat
  deriving DecidableEq, Repr

/-! ## Reasons to stop -/

/-- The situations whose treatment in the spec is a fault of the run. Each is safe: the model stops where
the hardware does something the spec does not fix. -/
inductive Fault where
  /-- Raised by every branch and jump that stands in a delay slot (10_state.md R29, 93_implementation_defined.md U3).
  Safe. -/
  | branchInDelaySlot
  /-- Raised by ERET in a delay slot (46_trap_system_cop0.md R313, 93_implementation_defined.md U16). Safe. -/
  | eretInDelaySlot
  /-- Raised by a fetch of a byte that a store of the run has written (20_memory.md R78, 93_implementation_defined.md U28).
  Safe. -/
  | fetchAfterStore
  /-- Raised by an access whose segment check meets the reserved base mode KSU = 11 (60_exceptions.md R560,
  93_implementation_defined.md U27). Safe. -/
  | ksuReserved
  /-- Raised by an access that `MemMap` answers with `none` while Status.BEM is 1: the access is a fault (00_scope.md R10,
  93_implementation_defined.md U22), and no bus error is signalled (10_state.md R41); log entry 17. Safe. -/
  | busErrorMasked
  deriving DecidableEq, Repr

/-- The situations the spec tells a model to refuse. Each is safe: the model has no step where the hardware may have
one. -/
inductive Refusal where
  /-- Raised by an instruction that has no meaning yet. Safe. -/
  | notModelled (mnemonic : String)
  /-- Raised by JALR with rd = rs other than 0 (93_implementation_defined.md U4) and by BLTZAL, BGEZAL, BLTZALL, BGEZALL with
  rs = 31 (U5). Safe. -/
  | linkSource
  /-- Raised by an MTC0 that writes KSU = 11 into Status (93_implementation_defined.md U27). Safe. -/
  | ksuReservedWrite
  /-- Raised by MFC0 and MTC0 of the translation and cache registers 0 to 6, 10, 28, 29 (10_state.md R50). Safe. -/
  | translationRegister (number : Reg)
  /-- Raised by MTC0 to Cause (10_state.md R42, 46_trap_system_cop0.md R321). Safe. -/
  | causeWrite
  /-- Raised by MTC0 to Config (46_trap_system_cop0.md R321). Safe. -/
  | configWrite
  /-- Raised by an MTBPC that sets IAE, DRE or DWE (60_exceptions.md R576). Safe. -/
  | breakpointEnable
  /-- Raised by an MTPS that sets CTE (60_exceptions.md R576). Safe. -/
  | counterEnable
  /-- Raised by MFPC and MTPC with reg of 2 or more and by MFPS and MTPS with reg other than 0 (46_trap_system_cop0.md R339
  to R342, 93_implementation_defined.md U19). Safe. -/
  | performanceSelector (reg : BitVec 5)
  /-- Raised by a coprocessor-2 word while CU[2] = 1 (30_encoding.md R112). Safe. -/
  | coprocessor2
  /-- Raised by the word of an instruction that the hardware has and the listing lacks (30_encoding.md R112,
  60_exceptions.md R544). Safe. -/
  | unlistedInstruction (name : String)
  deriving DecidableEq, Repr

/-- What an instruction, and a step, answers. -/
abbrev Result := Host.Outcome State Fault Refusal

/-! ## Reset (10_state.md R54, 70_reset_and_hazards.md R580) -/

/-- Status after reset: BEV (bit 22) and ERL (bit 2) set, BEM (bit 12) clear (10_state.md R41). The other fields: DESIGN
CHOICE 0, log entry 1. -/
def resetStatus : Word := 0x00400004

/-- The machine right after a cold reset. Values the spec does not state are 0: DESIGN CHOICE, log entry 1. -/
def State.reset : State where
  gpr := Vector.replicate 32 0
  pc := 0xBFC00000
  npc := 0xBFC00004
  bd := false
  hi := 0
  lo := 0
  saBytes := 0
  fpr := Vector.replicate 32 0
  acc := 0
  fcr31 := 0x01000001
  cop0 :=
    { status := resetStatus, cause := 0, epc := 0, errorEpc := 0, badVAddr := 0, badPAddr := 0, count := 0,
      compare := 0, config := 0 }
  dbg := { bpc := 0, iab := 0, iabm := 0, dab := 0, dabm := 0, dvb := 0, dvbm := 0 }
  perf := { pccr := 0, pcr0 := 0, pcr1 := 0 }
  mem := []
  stored := []
  memMap := []
  int0 := false
  int1 := false
  env := []
  draws := 0

end Sys2Proof.Machine
end

