-- ==== Sys2Proof/Machine/Flags.lean ====
section
/-! DEFINITION. Overflow, saturation, comparison masks, division with its open corners, and the flags and comparisons of the
floating-point unit (10_state.md R36, 47_fpu.md R351). The integer unit has no condition codes (10_state.md R38). -/

namespace Sys2Proof.Machine

/-! ## Integer overflow (40_command_table.md R131, 41_integer_alu.md R180, R182, R196, R197, R200) -/

/-- The 33-bit sum does not fit 32 bits: its two top bits differ. -/
def addOverflowW (a b : Word) : Bool :=
  let sum := a.signExtend 33 + b.signExtend 33
  sum.getLsbD 32 != sum.getLsbD 31

/-- The 33-bit difference does not fit 32 bits. -/
def subOverflowW (a b : Word) : Bool :=
  let d := a.signExtend 33 - b.signExtend 33
  d.getLsbD 32 != d.getLsbD 31

/-- The 65-bit sum does not fit 64 bits. -/
def addOverflowD (a b : Dword) : Bool :=
  let sum := a.signExtend 65 + b.signExtend 65
  sum.getLsbD 64 != sum.getLsbD 63

/-- The 65-bit difference does not fit 64 bits. -/
def subOverflowD (a b : Dword) : Bool :=
  let d := a.signExtend 65 - b.signExtend 65
  d.getLsbD 64 != d.getLsbD 63

/-! ## Saturation (00_scope.md R16) -/

/-- `sat_sN(i)`: `i` clamped to [-2^(N-1), 2^(N-1) - 1]. -/
def satS (n : Nat) (i : Int) : BitVec n := BitVec.ofInt n (max (-(2 ^ (n - 1) : Int)) (min i (2 ^ (n - 1) - 1)))

/-- `sat_uN(i)`: `i` clamped to [0, 2^N - 1]. -/
def satU (n : Nat) (i : Int) : BitVec n := BitVec.ofInt n (max 0 (min i (2 ^ n - 1)))

/-- All ones when `c` holds, else all zeros: a lane of a parallel compare (48_parallel_arith.md R416). -/
def maskLane (n : Nat) (c : Bool) : BitVec n := if c then BitVec.allOnes n else 0

/-- The absolute value, the most negative value giving the most positive (48_parallel_arith.md R410, R411). -/
def absSat (n : Nat) (v : BitVec n) : BitVec n := satS n v.toInt.natAbs

/-! ## Division (40_command_table.md R158, 43_muldiv_hilo.md R231) -/

/-- Quotient and remainder of DIV: rounded toward zero, the two open cases from `DivCorner`. -/
def divSigned (n d : Word) : Int × Int :=
  if d = 0 then Config.divCorner .divByZero n.toInt d.toInt
  else if n = 0x80000000 ∧ d = 0xFFFFFFFF then Config.divCorner .divOverflow n.toInt d.toInt
  else (n.toInt.tdiv d.toInt, n.toInt.tmod d.toInt)

/-- Quotient and remainder of DIVU, division by zero from `DivCorner`. -/
def divUnsigned (n d : Word) : Int × Int :=
  if d = 0 then Config.divCorner .divuByZero n.toNat d.toNat
  else ((n.toNat / d.toNat : Nat), (n.toNat % d.toNat : Nat))

/-- Quotient and remainder of one lane of PDIVBW (49_parallel_muldiv_pack.md R473). -/
def divBroadcast (n : Word) (d : Half) : Int × Int :=
  if d = 0 then Config.divCorner .pdivbwByZero n.toInt d.toInt
  else (n.toInt.tdiv d.toInt, n.toInt.tmod d.toInt)

/-- `trunc_32(i)`. -/
def truncW (i : Int) : Word := BitVec.ofInt 32 i

/-! ## FCR31 (10_state.md R36) -/

/-- The read/write bits of FCR31: C, I, D, O, U, SI, SD, SO, SU. -/
def fcr31Mask : Word := 0x0083C078

/-- The bits of FCR31 that read as 1 (log entry 27). -/
def fcr31Fixed : Word := 0x01000001

/-- A value of FCR31 with its fixed bits as they read. -/
def fcr31View (v : Word) : Word := (v &&& fcr31Mask) ||| fcr31Fixed

/-- `b` raises the flag at bit `k` and never clears it. -/
def stick (w : Word) (k : Nat) (b : Bool) : Word := if b then setBit w k true else w

/-- `setflags({O, U}, fl)` (47_fpu.md R351): O is bit 15, U 14, SO 4, SU 3. -/
def setFlagsOU (w : Word) (fl : FpFlags) : Word :=
  stick (stick (setBit (setBit w 15 fl.overflow) 14 fl.underflow) 4 fl.overflow) 3 fl.underflow

/-- `setflags({I, D}, fl)` (47_fpu.md R351): I is bit 17, D 16, SI 6, SD 5. -/
def setFlagsID (w : Word) (fl : FpFlags) : Word :=
  stick (stick (setBit (setBit w 17 fl.invalid) 16 fl.divZero) 6 fl.invalid) 5 fl.divZero

/-- `FCR31.C <- c`: bit 23. -/
def setFpCondition (w : Word) (c : Bool) : Word := setBit w 23 c

/-- No condition raised: the `{}` of `setflags({O, U}, {})`. -/
def noFpFlags : FpFlags := { invalid := false, divZero := false, overflow := false, underflow := false }

/-! ## Floating-point comparison (47_fpu.md R362 to R364; log entry 11) -/

/-- A normal number: exponent field 1 to 254. -/
def fpNormal (a : Word) : Bool := a.extractLsb' 23 8 != 0 && a.extractLsb' 23 8 != 255

/-- Orders normal numbers as their real values: the magnitude bits with the sign. -/
def fpKey (a : Word) : Int :=
  if a.getLsbD 31 then -((a.extractLsb' 0 31).toNat : Int) else ((a.extractLsb' 0 31).toNat : Int)

/-- `feq(a, b)`. -/
def feq (a b : Word) : Bool :=
  if a = b then true else if fpNormal a && fpNormal b then false else Config.feqSpecial a b

/-- `flt(a, b)`. -/
def flt (a b : Word) : Bool :=
  if fpNormal a && fpNormal b then decide (fpKey a < fpKey b) else Config.fltSpecial a b

/-- `fmax(a, b)`: one of the two operand patterns (47_fpu.md R375); which one is left open (log entry 10). -/
def fmax (a b : Word) : Word := if Config.fmaxIsFirst a b then a else b

/-- `fmin(a, b)`: one of the two operand patterns (47_fpu.md R376); which one is left open (log entry 10). -/
def fmin (a b : Word) : Word := if Config.fminIsFirst a b then a else b

/-- `fle(a, b) = flt(a, b) or feq(a, b)`. -/
def fle (a b : Word) : Bool := flt a b || feq a b

end Sys2Proof.Machine
end

