-- ==== Sys2Proof/Machine/Operands.lean ====
section
/-! DEFINITION. Operand forms: the register files with register 0 hard-wired (10_state.md R20, R21), immediates
(30_encoding.md R95, R96), effective addresses (45_load_store.md R270), branch and jump targets (30_encoding.md R97, R98). -/

namespace Sys2Proof.Machine

/-! ## General registers -/

/-- The register file with register `r` written: a write to register 0 is discarded (10_state.md R21). -/
def setGpr (g : Vector Quad 32) (r : Reg) (v : Quad) : Vector Quad 32 :=
  if r = 0 then g else g.set r.toNat v r.isLt

/-- `x[r]`, all 128 bits: register 0 reads 0 (10_state.md R21). -/
def State.readQ (s : State) (r : Reg) : Quad := if r = 0 then 0 else s.gpr[r.toNat]'r.isLt

/-- `x[r][63:0]`. -/
def State.readD (s : State) (r : Reg) : Dword := lowD (s.readQ r)

/-- `x[r][31:0]`. -/
def State.readW (s : State) (r : Reg) : Word := lowW (s.readD r)

/-- `x[r] <- v`, all 128 bits. -/
def State.writeQ (s : State) (r : Reg) (v : Quad) : State := { s with gpr := setGpr s.gpr r v }

/-- `x[r][63:0] <- v`: bits 127:64 keep their value (00_scope.md R9). -/
def State.writeD (s : State) (r : Reg) (v : Dword) : State := s.writeQ r (withLowD (s.readQ r) v)

/-- `x[r][63:0] <- sext_64(v)`. -/
def State.writeW (s : State) (r : Reg) (v : Word) : State := s.writeD r (sext64 v)

/-! ## Floating-point registers (10_state.md R34) -/

/-- `f[r]`. -/
def State.readF (s : State) (r : Reg) : Word := s.fpr[r.toNat]'r.isLt

/-- `f[r] <- v`. -/
def State.writeF (s : State) (r : Reg) (v : Word) : State := { s with fpr := s.fpr.set r.toNat v r.isLt }

/-! ## Immediates and addresses -/

/-- `sext_64(immediate)` (30_encoding.md R95). -/
def signImm (imm : BitVec 16) : Dword := imm.signExtend 64

/-- `sext_32(immediate)`. -/
def signImmW (imm : BitVec 16) : Word := imm.signExtend 32

/-- `zext_64(immediate)` (30_encoding.md R96). -/
def zeroImm (imm : BitVec 16) : Dword := imm.setWidth 64

/-- `EA <- x[base][31:0] + sext_32(offset)` (45_load_store.md R270). -/
def State.effAddr (s : State) (base : Reg) (offset : BitVec 16) : Addr := s.readW base + signImmW offset

/-- The aligned word that contains `a`. -/
def alignWord (a : Addr) : Addr := a &&& 0xFFFFFFFC

/-- The aligned doubleword that contains `a`. -/
def alignDword (a : Addr) : Addr := a &&& 0xFFFFFFF8

/-- The aligned quadword that contains `a` (20_memory.md R66). -/
def alignQuad (a : Addr) : Addr := a &&& 0xFFFFFFF0

/-- `pc + 4 + sext_32(offset ‖ 00)` (30_encoding.md R97). -/
def State.branchTarget (s : State) (offset : BitVec 16) : Addr := s.pc + 4 + (offset ++ 0#2).signExtend 32

/-- `(pc + 4)[31:28] ‖ instr_index ‖ 00` (30_encoding.md R98). -/
def State.jumpTarget (s : State) (index : BitVec 26) : Addr := (s.pc + 4).extractLsb' 28 4 ++ index ++ 0#2

/-- The link value: `zext_64(pc + 8)` (44_branch_jump.md R250), also where bit 31 of the address is set: DESIGN CHOICE for those
addresses, log entry 34. -/
def State.linkValue (s : State) : Dword := zext64 (s.pc + 8)

/-! ## Word lanes of HI and LO (49_parallel_muldiv_pack.md R460) -/

/-- `slot(k)`: the word lane of HI or LO that holds the value number `k`. -/
def State.slot (s : State) (k : Nat) : Word :=
  match k with
  | 0 => lane 32 s.lo 0
  | 1 => lane 32 s.lo 1
  | 2 => lane 32 s.hi 0
  | 3 => lane 32 s.hi 1
  | 4 => lane 32 s.lo 2
  | 5 => lane 32 s.lo 3
  | 6 => lane 32 s.hi 2
  | _ => lane 32 s.hi 3

/-- The LO whose word lanes are the values of its slots 0, 1, 4, 5. -/
def loOfSlots (p : Nat → Word) : Quad :=
  words4 fun k => match k with
    | 0 => p 0
    | 1 => p 1
    | 2 => p 4
    | _ => p 5

/-- The HI whose word lanes are the values of its slots 2, 3, 6, 7. -/
def hiOfSlots (p : Nat → Word) : Quad :=
  words4 fun k => match k with
    | 0 => p 2
    | 1 => p 3
    | 2 => p 6
    | _ => p 7

/-- The 64-bit accumulator `HI.W[k] ‖ LO.W[k]`. -/
def State.accumulator (s : State) (k : Nat) : Dword := joinW (lane 32 s.hi k) (lane 32 s.lo k)

end Sys2Proof.Machine
end

