-- ==== Sys2Proof/Machine/Memory.lean ====
section
/-! DEFINITION. Memory as a canonical list of bytes (20_memory.md R60), the platform's map (R70), the segment check (R71), and
the accesses of one instruction (00_scope.md R10). -/

namespace Sys2Proof.Machine

/-! ## Bytes -/

/-- What an address that is not listed reads as. DESIGN CHOICE, log entry 2: the spec gives memory no reset contents. -/
def Memory.unlisted : Byte := 0

/-- The byte at an address. -/
def Memory.read : Memory → Nat → Byte
  | [], _ => Memory.unlisted
  | (b, v) :: m, a => if b = a then v else Memory.read m a

/-- The memory with the byte at an address replaced, in canonical form. -/
def Memory.write : Memory → Nat → Byte → Memory
  | [], a, v => if v = Memory.unlisted then [] else [(a, v)]
  | (b, w) :: m, a, v =>
    if a < b then if v = Memory.unlisted then (b, w) :: m else (a, v) :: (b, w) :: m
    else if a = b then if v = Memory.unlisted then m else (a, v) :: m
    else (b, w) :: Memory.write m a v

/-- Every listed address is at least `lo` and below 2^32, they rise strictly, and no listed byte is what an unlisted one
reads as. -/
def Memory.wfFrom (lo : Nat) : Memory → Bool
  | [] => true
  | (a, v) :: m => decide (lo ≤ a) && decide (a < 2 ^ 32) && (v != Memory.unlisted) && Memory.wfFrom (a + 1) m

/-- The canonical form of memory. -/
def Memory.wf (m : Memory) : Bool := Memory.wfFrom 0 m

/-- The set of stored addresses with one more. -/
def markStored : List Nat → Nat → List Nat
  | [], a => [a]
  | b :: l, a => if a < b then a :: b :: l else if a = b then b :: l else b :: markStored l a

/-- The addresses rise strictly from `lo` and are below 2^32. -/
def storedWfFrom (lo : Nat) : List Nat → Bool
  | [] => true
  | a :: l => decide (lo ≤ a) && decide (a < 2 ^ 32) && storedWfFrom (a + 1) l

/-- The canonical form of the set of stored addresses. -/
def storedWf (l : List Nat) : Bool := storedWfFrom 0 l

/-! ## Accesses of several bytes (00_scope.md R10) -/

/-- The address of byte `k` of an access at `a`: `(a + k) mod 2^32`. -/
def byteAddr (a : Addr) (k : Nat) : Nat := (a + BitVec.ofNat 32 k).toNat

/-- `MemRead(a, n)` of memory, byte `k` in bits 8k+7:8k (20_memory.md R63). -/
def Memory.readBytes (m : Memory) (a : Addr) (n : Nat) : Quad := packLanes 8 (fun k => Memory.read m (byteAddr a k)) n

/-- `MemWrite(a, n, v)` to memory. -/
def Memory.writeBytes (m : Memory) (a : Addr) (v : Quad) : Nat → Memory
  | 0 => m
  | n + 1 => Memory.write (Memory.writeBytes m a v n) (byteAddr a n) (lane 8 v n)

/-- The stored addresses after a store of `n` bytes at `a`. -/
def markBytes (l : List Nat) (a : Addr) : Nat → List Nat
  | 0 => l
  | n + 1 => markStored (markBytes l a n) (byteAddr a n)

/-! ## The platform's map (20_memory.md R70; log entry 4) -/

/-- Whether a region speaks of an access of `n` bytes at `a`. -/
def MemRegion.covers (r : MemRegion) (kind : AccessKind) (a : Addr) (n : Nat) : Bool :=
  decide (r.base ≤ a.toNat) && decide (a.toNat < r.base + r.size) && decide (r.least ≤ n) && decide (n ≤ r.most) &&
    match kind with
    | .fetch => r.fetch
    | .load => r.load
    | .store => r.store

/-- `MemMap(a, n, kind)`: what the first region that speaks of the access says, ordinary memory where none does. -/
def accessClass : List MemRegion → AccessKind → Addr → Nat → RegionClass
  | [], _, _, _ => .ram
  | r :: rs, kind, a, n => if r.covers kind a n then r.cls else accessClass rs kind a n

/-! ## Modes and segments -/

/-- The modes of 60_exceptions.md R560. -/
inductive Mode where
  /-- EXL = 1 or ERL = 1 or KSU = 00. -/
  | kernel
  /-- KSU = 01. -/
  | supervisor
  /-- KSU = 10. -/
  | user
  /-- KSU = 11, reserved. -/
  | reserved
  deriving DecidableEq, Repr

/-- Bit `k` of Status (10_state.md R41). -/
def State.statusBit (s : State) (k : Nat) : Bool := s.cop0.status.getLsbD k

/-- The processor mode, a function of Status: EXL is bit 1, ERL bit 2, KSU bits 4:3. -/
def State.mode (s : State) : Mode :=
  if s.statusBit 1 || s.statusBit 2 then .kernel
  else match s.statusBit 4, s.statusBit 3 with
    | false, false => .kernel
    | false, true => .supervisor
    | true, false => .user
    | true, true => .reserved

/-- Whether a mode may access an address (20_memory.md R71). -/
def segmentAllows (m : Mode) (a : Addr) : Bool :=
  match m with
  | .kernel => true
  | .supervisor => decide (a.toNat < 0x80000000) || (decide (0xC0000000 ≤ a.toNat) && decide (a.toNat < 0xE0000000))
  | .user => decide (a.toNat < 0x80000000)
  | .reserved => false

/-! ## Exceptions and the checks of an access -/

/-- The level-1 exceptions of 60_exceptions.md R540 that this machine raises, with what they record. -/
inductive Exc where
  /-- An enabled pending interrupt. -/
  | interrupt
  /-- A load or fetch at a misaligned or forbidden address. -/
  | addressErrorLoad (a : Addr)
  /-- A store at a misaligned or forbidden address. -/
  | addressErrorStore (a : Addr)
  /-- A fetch where nothing is. -/
  | busErrorFetch (a : Addr)
  /-- A load or store where nothing is. -/
  | busErrorData (a : Addr)
  /-- SYSCALL. -/
  | systemCall
  /-- BREAK. -/
  | breakpoint
  /-- A word that matches no row of the opcode table. -/
  | reservedInstruction
  /-- An instruction of coprocessor `z` while it is not usable; there is no coprocessor 3 (90_conflicts.md C33). -/
  | coprocessorUnusable (z : Fin 3)
  /-- Signed overflow of ADD, ADDI, SUB, DADD, DADDI, DSUB. -/
  | integerOverflow
  /-- A conditional trap. -/
  | trap
  deriving DecidableEq, Repr

/-- What the checks of an access answer. -/
inductive AccessCheck where
  /-- Ordinary memory. -/
  | ram
  /-- A device. -/
  | device
  /-- The access raises. -/
  | raises (e : Exc)
  /-- The access meets an unpredictable situation. -/
  | stops (f : Fault)
  deriving DecidableEq, Repr

/-- The address error of a kind of access. -/
def addressError (kind : AccessKind) (a : Addr) : Exc :=
  match kind with
  | .fetch => .addressErrorLoad a
  | .load => .addressErrorLoad a
  | .store => .addressErrorStore a

/-- The bus error of a kind of access. -/
def busError (kind : AccessKind) (a : Addr) : Exc :=
  match kind with
  | .fetch => .busErrorFetch a
  | .load => .busErrorData a
  | .store => .busErrorData a

/-- The checks of an access of `n` bytes at `a`, in the order alignment, segment, MemMap (45_load_store.md R270). `ea` is the
address that an address error reports; it must be a multiple of `align`. Where nothing is the
access is a fault (00_scope.md R10): a bus error, or a stop while BEM, bit 12 of Status, is 1, since bus errors are then not
signalled (10_state.md R41; log entry 17). -/
def State.checkAccess (s : State) (kind : AccessKind) (ea a : Addr) (n align : Nat) : AccessCheck :=
  if ea.toNat % align ≠ 0 then .raises (addressError kind ea)
  else if s.mode = .reserved then .stops .ksuReserved
  else if segmentAllows s.mode ea = false then .raises (addressError kind ea)
  else match accessClass s.memMap kind a n with
    | .ram => .ram
    | .device => .device
    | .absent => if s.statusBit 12 then .stops .busErrorMasked else .raises (busError kind a)

end Sys2Proof.Machine
end

