-- ==== Sys2Proof/Machine/Ops.lean ====
section
/-! DEFINITION. The shared operations of the instructions: sequencing (10_state.md R27), taking an exception and returning from
one (60_exceptions.md R553 to R555, 46_trap_system_cop0.md R313), coprocessor usability (R562), loads and stores
(45_load_store.md R270), writing results. -/

namespace Sys2Proof.Machine

/-! ## Sequencing (10_state.md R27) -/

/-- The end of an instruction that transfers no control. -/
def State.advance (s : State) : State := { s with pc := s.npc, npc := s.npc + 4, bd := false }

/-- `branch(t)`: the delay slot executes, then control reaches `t`. -/
def branchTo (s : State) (t : Addr) : Result :=
  if s.bd then .fault .branchInDelaySlot else .next { s with pc := s.npc, npc := t, bd := true }

/-- `nobranch`: a transfer that is not taken; the delay slot executes. -/
def noBranch (s : State) : Result :=
  if s.bd then .fault .branchInDelaySlot else .next { s with pc := s.npc, npc := s.npc + 4, bd := true }

/-- `nullify`: a likely branch that is not taken; the delay slot is skipped. -/
def nullify (s : State) : Result :=
  if s.bd then .fault .branchInDelaySlot else .next { s with pc := s.npc + 4, npc := s.npc + 8, bd := false }

/-- A conditional branch. -/
def branchIf (c : Bool) (s : State) (t : Addr) : Result := if c then branchTo s t else noBranch s

/-- A conditional branch of the likely kind (44_branch_jump.md R250 (c)). -/
def branchLikelyIf (c : Bool) (s : State) (t : Addr) : Result := if c then branchTo s t else nullify s

/-! ## Exceptions -/

/-- `Cause.ExcCode` (60_exceptions.md R540). -/
def Exc.code : Exc → BitVec 5
  | .interrupt => 0
  | .addressErrorLoad _ => 4
  | .addressErrorStore _ => 5
  | .busErrorFetch _ => 6
  | .busErrorData _ => 7
  | .systemCall => 8
  | .breakpoint => 9
  | .reservedInstruction => 10
  | .coprocessorUnusable _ => 11
  | .integerOverflow => 12
  | .trap => 13

/-- Whether the exception is an interrupt, which has a vector of its own. -/
def Exc.isInterrupt : Exc → Bool
  | .interrupt => true
  | _ => false

/-- The address that BadVAddr receives, if any. -/
def Exc.badVAddr : Exc → Option Addr
  | .addressErrorLoad a => some a
  | .addressErrorStore a => some a
  | _ => none

/-- The address that BadPAddr receives while BEM = 0, if any. -/
def Exc.badPAddr : Exc → Option Addr
  | .busErrorFetch a => some a
  | .busErrorData a => some a
  | _ => none

/-- The number of the coprocessor in `Cause.CE` after the exception: that of CoprocessorUnusable, else a draw, never 3
(60_exceptions.md R542, 90_conflicts.md C33; log entry 15). -/
def Exc.ceNumber (e : Exc) (draws : Nat) : Fin 3 :=
  match e with
  | .coprocessorUnusable z => z
  | _ => Config.causeCe draws

/-- `Cause.CE` after the exception. -/
def Exc.ce (e : Exc) (draws : Nat) : BitVec 2 := BitVec.ofNat 2 (e.ceNumber draws).val

/-- How many draws the exception makes. -/
def Exc.drawsMade : Exc → Nat
  | .coprocessorUnusable _ => 0
  | _ => 1

/-- The base of the level-1 vectors: BEV is bit 22 of Status (60_exceptions.md R554). -/
def level1Base (status : Word) : Addr := if status.getLsbD 22 then 0xBFC00200 else 0x80000000

/-- The vector of a level-1 exception: EXL is bit 1 of Status (60_exceptions.md R553, R554). -/
def level1Vector (e : Exc) (status : Word) : Addr :=
  level1Base status + if e.isInterrupt && !status.getLsbD 1 then 0x200 else 0x180

/-- The coprocessor-0 registers after level-1 trap entry at `pc` with delay-slot flag `bd` (60_exceptions.md R553): ExcCode is
bits 6:2 of Cause, CE bits 29:28, BD bit 31; BEM is bit 12 of Status. -/
def Cop0.enterLevel1 (c : Cop0) (e : Exc) (pc : Addr) (bd : Bool) (draws : Nat) : Cop0 :=
  let first := !c.status.getLsbD 1
  let cause := putField (putField c.cause 2 e.code) 28 (e.ce draws)
  { c with
    epc := if first then (if bd then pc - 4 else pc) else c.epc
    cause := if first then setBit cause 31 bd else cause
    badVAddr := e.badVAddr.getD c.badVAddr
    badPAddr := if c.status.getLsbD 12 then c.badPAddr else e.badPAddr.getD c.badPAddr
    status := setBit c.status 1 true }

/-- TAKING A LEVEL-1 EXCEPTION: `TrapEntry1` of 60_exceptions.md R553 for the instruction at `pc`. -/
def takeException (e : Exc) (s : State) : State :=
  { s with
    cop0 := s.cop0.enterLevel1 e s.pc s.bd s.draws
    draws := s.draws + e.drawsMade
    pc := level1Vector e s.cop0.status
    npc := level1Vector e s.cop0.status + 4
    bd := false }

/-- An instruction that raises: it has no effect of its own (00_scope.md R11). -/
def raise (e : Exc) (s : State) : Result := .next (takeException e s)

/-- The level-2 events other than Reset (60_exceptions.md R540). -/
inductive Event2 where
  /-- The non-maskable interrupt. -/
  | nmi
  /-- A performance counter has overflowed. -/
  | performanceCounter
  /-- A hardware breakpoint has matched. -/
  | debug
  deriving DecidableEq, Repr

/-- `Cause.EXC2` (60_exceptions.md R540). -/
def Event2.code : Event2 → BitVec 3
  | .nmi => 1
  | .performanceCounter => 2
  | .debug => 3

/-- The vector of a level-2 event: DEV is bit 23 of Status (60_exceptions.md R554, R555). -/
def Event2.vector (e : Event2) (status : Word) : Addr :=
  let base : Addr := if status.getLsbD 23 then 0xBFC00200 else 0x80000000
  match e with
  | .nmi => 0xBFC00000
  | .performanceCounter => base + 0x080
  | .debug => base + 0x100

/-- Status after a level-2 event: ERL set, and BEV at NMI (60_exceptions.md R555). -/
def Event2.status (e : Event2) (status : Word) : Word :=
  match e with
  | .nmi => setBit (setBit status 2 true) 22 true
  | _ => setBit status 2 true

/-- TAKING A LEVEL-2 EXCEPTION: `TrapEntry2` of 60_exceptions.md R555. EXC2 is bits 18:16 of Cause, BD2 bit 30. -/
def takeEvent2 (e : Event2) (s : State) : State :=
  { s with
    cop0 :=
      { s.cop0 with
        errorEpc := if s.bd then s.pc - 4 else s.pc
        cause := putField (setBit s.cop0.cause 30 s.bd) 16 e.code
        status := e.status s.cop0.status }
    pc := e.vector s.cop0.status
    npc := e.vector s.cop0.status + 4
    bd := false }

/-- RETURNING FROM AN EXCEPTION: ERET of 46_trap_system_cop0.md R313. ERL is bit 2 of Status, EXL bit 1. -/
def exceptionReturn (s : State) : State :=
  if s.statusBit 2 then
    { s with
      cop0 := { s.cop0 with status := setBit s.cop0.status 2 false }
      pc := s.cop0.errorEpc
      npc := s.cop0.errorEpc + 4
      bd := false }
  else
    { s with
      cop0 := { s.cop0 with status := setBit s.cop0.status 1 false }
      pc := s.cop0.epc
      npc := s.cop0.epc + 4
      bd := false }

/-! ## Coprocessor usability (60_exceptions.md R562) -/

/-- `CopUsable(0)`: kernel mode, or CU[0] (bit 28). -/
def State.cop0Usable (s : State) : Bool := decide (s.mode = .kernel) || s.statusBit 28

/-- `CopUsable(1)`: CU[1] (bit 29), in every mode. -/
def State.cop1Usable (s : State) : Bool := s.statusBit 29

/-- `CopUsable(2)`: CU[2] (bit 30). -/
def State.cop2Usable (s : State) : Bool := s.statusBit 30

/-- `if not CopUsable(0) then raise CoprocessorUnusable(0)`, else go on. -/
def withCop0 (s : State) (k : Result) : Result := if s.cop0Usable then k else raise (.coprocessorUnusable 0) s

/-- `if not CopUsable(1) then raise CoprocessorUnusable(1)`, else go on. -/
def withCop1 (s : State) (k : Result) : Result := if s.cop1Usable then k else raise (.coprocessorUnusable 1) s

/-! ## Results -/

/-- An instruction whose result is `x[rd][63:0] <- v`. -/
def resultD (s : State) (rd : Reg) (v : Dword) : Result := .next (s.writeD rd v).advance

/-- An instruction whose result is `x[rd][63:0] <- sext_64(v)`. -/
def resultW (s : State) (rd : Reg) (v : Word) : Result := .next (s.writeW rd v).advance

/-- An instruction whose result is `x[rd] <- v`, all 128 bits. -/
def resultQ (s : State) (rd : Reg) (v : Quad) : Result := .next (s.writeQ rd v).advance

/-- A trapping word operation: the exception on overflow, else the result. -/
def resultWChecked (s : State) (overflow : Bool) (rd : Reg) (v : Word) : Result :=
  if overflow then raise .integerOverflow s else resultW s rd v

/-- A trapping doubleword operation. -/
def resultDChecked (s : State) (overflow : Bool) (rd : Reg) (v : Dword) : Result :=
  if overflow then raise .integerOverflow s else resultD s rd v

/-- A conditional trap (46_trap_system_cop0.md R301 to R312). -/
def trapIf (c : Bool) (s : State) : Result := if c then raise .trap s else .next s.advance

/-- HI and LO, bits 63:0 each. -/
def State.writeHiLo (s : State) (h l : Dword) : State := { s with hi := withLowD s.hi h, lo := withLowD s.lo l }

/-- HI1 and LO1, bits 127:64 of HI and LO (10_state.md R31). -/
def State.writeHiLo1 (s : State) (h l : Dword) : State := { s with hi := withHighD s.hi h, lo := withHighD s.lo l }

/-- HI and LO, all 128 bits. -/
def State.writeHiLoQ (s : State) (h l : Quad) : State := { s with hi := h, lo := l }

/-- A 64-bit multiply result: LO gets the sign-extended low word, HI the high word, `rd` the low word
(40_command_table.md R137). -/
def resultMul (s : State) (rd : Reg) (p : Dword) : Result :=
  .next ((s.writeHiLo (sext64 (highW p)) (sext64 (lowW p))).writeW rd (lowW p)).advance

/-- As `resultMul` on HI1 and LO1 (43_muldiv_hilo.md R232). -/
def resultMul1 (s : State) (rd : Reg) (p : Dword) : Result :=
  .next ((s.writeHiLo1 (sext64 (highW p)) (sext64 (lowW p))).writeW rd (lowW p)).advance

/-- A quotient and remainder: LO gets the quotient, HI the remainder, both cut to 32 bits and sign-extended
(40_command_table.md R158). -/
def resultDiv (s : State) (qr : Int × Int) : Result :=
  .next (s.writeHiLo (sext64 (truncW qr.2)) (sext64 (truncW qr.1))).advance

/-- As `resultDiv` on HI1 and LO1 (43_muldiv_hilo.md R234). -/
def resultDiv1 (s : State) (qr : Int × Int) : Result :=
  .next (s.writeHiLo1 (sext64 (truncW qr.2)) (sext64 (truncW qr.1))).advance

/-- Two 64-bit results, one per doubleword: `rd.D[j]` gets each whole, LO and HI their sign-extended halves
(49_parallel_muldiv_pack.md R461). -/
def resultMulPair (s : State) (rd : Reg) (p0 p1 : Dword) : Result :=
  .next ((s.writeHiLoQ (joinD (sext64 (highW p1)) (sext64 (highW p0)))
    (joinD (sext64 (lowW p1)) (sext64 (lowW p0)))).writeQ rd (joinD p1 p0)).advance

/-- Eight 32-bit values, each in its slot, the even ones in `rd` (49_parallel_muldiv_pack.md R460). -/
def resultSlots (s : State) (rd : Reg) (p : Nat → Word) : Result :=
  .next ((s.writeHiLoQ (hiOfSlots p) (loOfSlots p)).writeQ rd (words4 fun k => p (2 * k))).advance

/-- Four 32-bit values in the even word lanes of LO and HI and in `rd`; the odd lanes of LO and HI are draws
(49_parallel_muldiv_pack.md R469, R470; log entry 29). -/
def resultHorizontal (s : State) (rd : Reg) (q : Nat → Word) : Result :=
  let lo := words4 fun k => match k with
    | 0 => q 0
    | 1 => Config.phmLo 1 s.draws
    | 2 => q 2
    | _ => Config.phmLo 3 s.draws
  let hi := words4 fun k => match k with
    | 0 => q 1
    | 1 => Config.phmHi 1 s.draws
    | 2 => q 3
    | _ => Config.phmHi 3 s.draws
  .next ({ (s.writeHiLoQ hi lo).writeQ rd (words4 q) with draws := s.draws + 1 }).advance

/-- Two quotients and remainders, one per doubleword (49_parallel_muldiv_pack.md R471). -/
def resultDivPair (s : State) (qr0 qr1 : Int × Int) : Result :=
  .next (s.writeHiLoQ (joinD (sext64 (truncW qr1.2)) (sext64 (truncW qr0.2)))
    (joinD (sext64 (truncW qr1.1)) (sext64 (truncW qr0.1)))).advance

/-! ## Data memory -/

/-- The value a device answers to a load of `n` bytes (20_memory.md R70; log entry 5). -/
def State.deviceRead (s : State) (a : Addr) (n : Nat) : Quad :=
  packLanes 8 (fun k => Config.deviceByte (byteAddr a k) s.draws) n

/-- A load of `n` bytes at `a`, checked, then what the instruction does with the value. -/
def loadThen (s : State) (ea a : Addr) (n align : Nat) (k : Quad → State → State) : Result :=
  match s.checkAccess .load ea a n align with
  | .ram => .next (k (s.mem.readBytes a n) s).advance
  | .device => .next (k (s.deviceRead a n) { s with draws := s.draws + 1 }).advance
  | .raises e => raise e s
  | .stops f => .fault f

/-- The state after `MemWrite(a, n, v)` to ordinary memory: the bytes, and that they were stored (20_memory.md R78). -/
def State.storeBytes (s : State) (a : Addr) (n : Nat) (v : Quad) : State :=
  { s with mem := s.mem.writeBytes a v n, stored := markBytes s.stored a n }

/-- A store of the `n` low bytes of `v` at `a`, checked. A device absorbs it (20_memory.md R70). -/
def storeValue (s : State) (ea a : Addr) (n align : Nat) (v : Quad) : Result :=
  match s.checkAccess .store ea a n align with
  | .ram => .next (s.storeBytes a n v).advance
  | .device => .next { s with stored := markBytes s.stored a n }.advance
  | .raises e => raise e s
  | .stops f => .fault f

end Sys2Proof.Machine
end

