-- ==== Sys2Proof/Machine/Branch.lean ====
section
/-! DEFINITION. Branches and jumps (40_command_table.md, 44_branch_jump.md). One meaning per
instruction, in the order of the opcode table. -/

namespace Sys2Proof.Machine

/-- BLEZ (40_command_table.md R138): branch if `rs` <= 0, signed. -/
def execBlez (rs : Reg) (offset : BitVec 16) (s : State) : Result :=
  branchIf ((s.readD rs).sle 0) s (s.branchTarget offset)

/-- BEQ (40_command_table.md R143): branch if the doublewords are equal. -/
def execBeq (rs rt : Reg) (offset : BitVec 16) (s : State) : Result :=
  branchIf (decide (s.readD rs = s.readD rt)) s (s.branchTarget offset)

/-- BNE (40_command_table.md R144): branch if the doublewords are not equal. -/
def execBne (rs rt : Reg) (offset : BitVec 16) (s : State) : Result :=
  branchIf (decide (s.readD rs ≠ s.readD rt)) s (s.branchTarget offset)

/-- JAL (40_command_table.md R151): link and jump within the region of the delay slot. -/
def execJal (index : BitVec 26) (s : State) : Result := branchTo (s.writeD 31 s.linkValue) (s.jumpTarget index)

/-- JR (40_command_table.md R153): jump to the address in `rs`. -/
def execJr (rs : Reg) (s : State) : Result := branchTo s (s.readW rs)

/-- BLTZAL (40_command_table.md R159): link, and branch if `rs` < 0, signed; `rs` = 31 is link_source. -/
def execBltzal (rs : Reg) (offset : BitVec 16) (s : State) : Result :=
  if rs = 31 then .refused .linkSource
  else branchIf ((s.readD rs).slt 0) (s.writeD 31 s.linkValue) (s.branchTarget offset)

/-- BGEZAL (40_command_table.md R160): link, and branch if `rs` >= 0, signed; `rs` = 31 is link_source. -/
def execBgezal (rs : Reg) (offset : BitVec 16) (s : State) : Result :=
  if rs = 31 then .refused .linkSource
  else branchIf ((0 : Dword).sle (s.readD rs)) (s.writeD 31 s.linkValue) (s.branchTarget offset)

/-- BEQL (44_branch_jump.md R251): branch likely if the doublewords are equal. -/
def execBeql (rs rt : Reg) (offset : BitVec 16) (s : State) : Result :=
  branchLikelyIf (decide (s.readD rs = s.readD rt)) s (s.branchTarget offset)

/-- BNEL (44_branch_jump.md R252): branch likely if the doublewords are not equal. -/
def execBnel (rs rt : Reg) (offset : BitVec 16) (s : State) : Result :=
  branchLikelyIf (decide (s.readD rs ≠ s.readD rt)) s (s.branchTarget offset)

/-- BGEZ (44_branch_jump.md R253): branch if `rs` >= 0, signed. -/
def execBgez (rs : Reg) (offset : BitVec 16) (s : State) : Result :=
  branchIf ((0 : Dword).sle (s.readD rs)) s (s.branchTarget offset)

/-- BGEZL (44_branch_jump.md R254): branch likely if `rs` >= 0, signed. -/
def execBgezl (rs : Reg) (offset : BitVec 16) (s : State) : Result :=
  branchLikelyIf ((0 : Dword).sle (s.readD rs)) s (s.branchTarget offset)

/-- BGEZALL (44_branch_jump.md R255): link, and branch likely if `rs` >= 0, signed; `rs` = 31 is link_source. -/
def execBgezall (rs : Reg) (offset : BitVec 16) (s : State) : Result :=
  if rs = 31 then .refused .linkSource
  else branchLikelyIf ((0 : Dword).sle (s.readD rs)) (s.writeD 31 s.linkValue) (s.branchTarget offset)

/-- BGTZ (44_branch_jump.md R256): branch if `rs` > 0, signed. -/
def execBgtz (rs : Reg) (offset : BitVec 16) (s : State) : Result :=
  branchIf ((0 : Dword).slt (s.readD rs)) s (s.branchTarget offset)

/-- BGTZL (44_branch_jump.md R257): branch likely if `rs` > 0, signed. -/
def execBgtzl (rs : Reg) (offset : BitVec 16) (s : State) : Result :=
  branchLikelyIf ((0 : Dword).slt (s.readD rs)) s (s.branchTarget offset)

/-- BLEZL (44_branch_jump.md R258): branch likely if `rs` <= 0, signed. -/
def execBlezl (rs : Reg) (offset : BitVec 16) (s : State) : Result :=
  branchLikelyIf ((s.readD rs).sle 0) s (s.branchTarget offset)

/-- BLTZ (44_branch_jump.md R259): branch if `rs` < 0, signed. -/
def execBltz (rs : Reg) (offset : BitVec 16) (s : State) : Result :=
  branchIf ((s.readD rs).slt 0) s (s.branchTarget offset)

/-- BLTZL (44_branch_jump.md R260): branch likely if `rs` < 0, signed. -/
def execBltzl (rs : Reg) (offset : BitVec 16) (s : State) : Result :=
  branchLikelyIf ((s.readD rs).slt 0) s (s.branchTarget offset)

/-- BLTZALL (44_branch_jump.md R261): link, and branch likely if `rs` < 0, signed; `rs` = 31 is link_source. -/
def execBltzall (rs : Reg) (offset : BitVec 16) (s : State) : Result :=
  if rs = 31 then .refused .linkSource
  else branchLikelyIf ((s.readD rs).slt 0) (s.writeD 31 s.linkValue) (s.branchTarget offset)

/-- J (44_branch_jump.md R262): jump within the region of the delay slot. -/
def execJ (index : BitVec 26) (s : State) : Result := branchTo s (s.jumpTarget index)

/-- JALR (44_branch_jump.md R263): link in `rd` and jump to the address in `rs`; `rd` = `rs` is link_source, but for
`rd` = 0, which links nothing (log entry 21). -/
def execJalr (rs rd : Reg) (s : State) : Result :=
  if rd = rs ∧ rd ≠ 0 then .refused .linkSource
  else branchTo (s.writeD rd s.linkValue) (s.readW rs)

end Sys2Proof.Machine
end

