-- ==== Sys2Proof/Machine/Fpu.lean ====
section
/-! DEFINITION. The floating-point instructions (47_fpu.md). One meaning per
instruction, in the order of the opcode table. -/

namespace Sys2Proof.Machine

/-- FCR0: bits 31:16 are zero (10_state.md R35). -/
def fcr0 : Word := 0#16 ++ Config.fcr016

/-- `f[fd] <- r ; setflags({O, U}, fl)`. -/
def resultFpOU (s : State) (fd : Reg) (r : Word) (fl : FpFlags) : Result :=
  .next (State.advance { s.writeF fd r with fcr31 := setFlagsOU s.fcr31 fl })

/-- `f[fd] <- r ; setflags({I, D}, fl)`. -/
def resultFpID (s : State) (fd : Reg) (r : Word) (fl : FpFlags) : Result :=
  .next (State.advance { s.writeF fd r with fcr31 := setFlagsID s.fcr31 fl })

/-- `ACC <- r ; setflags({O, U}, fl)`. -/
def resultAccOU (s : State) (r : Word) (fl : FpFlags) : Result :=
  .next (State.advance { s with acc := r, fcr31 := setFlagsOU s.fcr31 fl })

/-- `FCR31.C <- c`. -/
def setCondition (s : State) (c : Bool) : Result :=
  .next (State.advance { s with fcr31 := setFpCondition s.fcr31 c })

/-- MFC1 (47_fpu.md R352): `f[fs]` to `rt`, sign-extended. -/
def execMfc1 (rt fs : Reg) (s : State) : Result := withCop1 s (resultW s rt (s.readF fs))

/-- MTC1 (47_fpu.md R353): bits 31:0 of `rt` to `f[fs]`. -/
def execMtc1 (rt fs : Reg) (s : State) : Result := withCop1 s (.next (s.writeF fs (s.readW rt)).advance)

/-- CFC1 (47_fpu.md R354): a floating-point control register to `rt`; a reserved number reads a draw. -/
def execCfc1 (rt fs : Reg) (s : State) : Result :=
  withCop1 s (
    if fs = 0 then resultW s rt fcr0
    else if fs = 31 then resultW s rt (fcr31View s.fcr31)
    else resultW { s with draws := s.draws + 1 } rt (Config.fcrReserved fs s.draws))

/-- CTC1 (47_fpu.md R355): bits 31:0 of `rt` to the writable bits of FCR31; any other number: no effect. -/
def execCtc1 (rt fs : Reg) (s : State) : Result :=
  withCop1 s (
    if fs = 31 then .next (State.advance { s with fcr31 := fcr31View (s.readW rt) }) else .next s.advance)

/-- LWC1 (47_fpu.md R356): a word to `f[ft]`. -/
def execLwc1 (base ft : Reg) (offset : BitVec 16) (s : State) : Result :=
  withCop1 s (
    let ea := s.effAddr base offset
    loadThen s ea ea 4 4 fun v t => t.writeF ft (v.setWidth 32))

/-- SWC1 (47_fpu.md R357): `f[ft]` to memory. -/
def execSwc1 (base ft : Reg) (offset : BitVec 16) (s : State) : Result :=
  withCop1 s (
    let ea := s.effAddr base offset
    storeValue s ea ea 4 4 ((s.readF ft).setWidth 128))

/-- MOV.S (47_fpu.md R358): copies the pattern. -/
def execMovS (fs fd : Reg) (s : State) : Result := withCop1 s (.next (s.writeF fd (s.readF fs)).advance)

/-- ABS.S (47_fpu.md R359): clears the sign bit; O and U cleared. -/
def execAbsS (fs fd : Reg) (s : State) : Result :=
  withCop1 s (resultFpOU s fd ((s.readF fs) &&& 0x7FFFFFFF) noFpFlags)

/-- NEG.S (47_fpu.md R360): inverts the sign bit; O and U cleared. -/
def execNegS (fs fd : Reg) (s : State) : Result :=
  withCop1 s (resultFpOU s fd ((s.readF fs) ^^^ 0x80000000) noFpFlags)

/-- C.F.S (47_fpu.md R361): C becomes 0. -/
def execCFS (_ft _fs : Reg) (s : State) : Result := withCop1 s (setCondition s false)

/-- C.EQ.S (47_fpu.md R362): C becomes `feq(f[fs], f[ft])`. -/
def execCEqS (ft fs : Reg) (s : State) : Result := withCop1 s (setCondition s (feq (s.readF fs) (s.readF ft)))

/-- C.LT.S (47_fpu.md R363): C becomes `flt(f[fs], f[ft])`. -/
def execCLtS (ft fs : Reg) (s : State) : Result := withCop1 s (setCondition s (flt (s.readF fs) (s.readF ft)))

/-- C.LE.S (47_fpu.md R364): C becomes `fle(f[fs], f[ft])`. -/
def execCLeS (ft fs : Reg) (s : State) : Result := withCop1 s (setCondition s (fle (s.readF fs) (s.readF ft)))

/-- BC1F (47_fpu.md R365): branch if C is 0. -/
def execBc1f (offset : BitVec 16) (s : State) : Result :=
  withCop1 s (branchIf (!s.fcr31.getLsbD 23) s (s.branchTarget offset))

/-- BC1FL (47_fpu.md R366): branch likely if C is 0. -/
def execBc1fl (offset : BitVec 16) (s : State) : Result :=
  withCop1 s (branchLikelyIf (!s.fcr31.getLsbD 23) s (s.branchTarget offset))

/-- BC1T (47_fpu.md R367): branch if C is 1. -/
def execBc1t (offset : BitVec 16) (s : State) : Result :=
  withCop1 s (branchIf (s.fcr31.getLsbD 23) s (s.branchTarget offset))

/-- BC1TL (47_fpu.md R368): branch likely if C is 1. -/
def execBc1tl (offset : BitVec 16) (s : State) : Result :=
  withCop1 s (branchLikelyIf (s.fcr31.getLsbD 23) s (s.branchTarget offset))

/-- ADD.S (47_fpu.md R369): `fadd`; flags O, U. -/
def execAddS (ft fs fd : Reg) (s : State) : Result :=
  withCop1 s (
    let r := Config.fadd (s.readF fs) (s.readF ft)
    resultFpOU s fd r.1 r.2)

/-- SUB.S (47_fpu.md R370): `fsub`; flags O, U. -/
def execSubS (ft fs fd : Reg) (s : State) : Result :=
  withCop1 s (
    let r := Config.fsub (s.readF fs) (s.readF ft)
    resultFpOU s fd r.1 r.2)

/-- MUL.S (47_fpu.md R371): `fmul`; flags O, U. -/
def execMulS (ft fs fd : Reg) (s : State) : Result :=
  withCop1 s (
    let r := Config.fmul (s.readF fs) (s.readF ft)
    resultFpOU s fd r.1 r.2)

/-- DIV.S (47_fpu.md R372): `fdiv`; flags I, D. -/
def execDivS (ft fs fd : Reg) (s : State) : Result :=
  withCop1 s (
    let r := Config.fdiv (s.readF fs) (s.readF ft)
    resultFpID s fd r.1 r.2)

/-- SQRT.S (47_fpu.md R373): `fsqrt` of `f[ft]`; flags I, D. -/
def execSqrtS (ft fd : Reg) (s : State) : Result :=
  withCop1 s (
    let r := Config.fsqrt (s.readF ft)
    resultFpID s fd r.1 r.2)

/-- RSQRT.S (47_fpu.md R374): `frsqrt`; flags I, D. -/
def execRsqrtS (ft fs fd : Reg) (s : State) : Result :=
  withCop1 s (
    let r := Config.frsqrt (s.readF fs) (s.readF ft)
    resultFpID s fd r.1 r.2)

/-- MAX.S (47_fpu.md R375): `fmax`; O and U cleared. -/
def execMaxS (ft fs fd : Reg) (s : State) : Result :=
  withCop1 s (resultFpOU s fd (fmax (s.readF fs) (s.readF ft)) noFpFlags)

/-- MIN.S (47_fpu.md R376): `fmin`; O and U cleared. -/
def execMinS (ft fs fd : Reg) (s : State) : Result :=
  withCop1 s (resultFpOU s fd (fmin (s.readF fs) (s.readF ft)) noFpFlags)

/-- MULA.S (47_fpu.md R377): `fmul` into ACC; flags O, U. -/
def execMulaS (ft fs : Reg) (s : State) : Result :=
  withCop1 s (
    let r := Config.fmul (s.readF fs) (s.readF ft)
    resultAccOU s r.1 r.2)

/-- SUBA.S (47_fpu.md R378): `fsub` into ACC; flags O, U. -/
def execSubaS (ft fs : Reg) (s : State) : Result :=
  withCop1 s (
    let r := Config.fsub (s.readF fs) (s.readF ft)
    resultAccOU s r.1 r.2)

/-- MADD.S (47_fpu.md R379): `fmadd` of ACC; flags O, U. -/
def execMaddS (ft fs fd : Reg) (s : State) : Result :=
  withCop1 s (
    let r := Config.fmadd s.acc (s.readF fs) (s.readF ft)
    resultFpOU s fd r.1 r.2)

/-- MSUB.S (47_fpu.md R380): `fmsub` of ACC; flags O, U. -/
def execMsubS (ft fs fd : Reg) (s : State) : Result :=
  withCop1 s (
    let r := Config.fmsub s.acc (s.readF fs) (s.readF ft)
    resultFpOU s fd r.1 r.2)

/-- MADDA.S (47_fpu.md R381): `fmadd` of ACC into ACC; flags O, U. -/
def execMaddaS (ft fs : Reg) (s : State) : Result :=
  withCop1 s (
    let r := Config.fmadd s.acc (s.readF fs) (s.readF ft)
    resultAccOU s r.1 r.2)

/-- MSUBA.S (47_fpu.md R382): `fmsub` of ACC into ACC; flags O, U. -/
def execMsubaS (ft fs : Reg) (s : State) : Result :=
  withCop1 s (
    let r := Config.fmsub s.acc (s.readF fs) (s.readF ft)
    resultAccOU s r.1 r.2)

/-- CVT.S.W (47_fpu.md R383): `cvt_s_w`; no flag. -/
def execCvtSW (fs fd : Reg) (s : State) : Result :=
  withCop1 s (.next (s.writeF fd (Config.cvtSW (s.readF fs)).1).advance)

/-- CVT.W.S (47_fpu.md R384): `cvt_w_s`; no flag. -/
def execCvtWS (fs fd : Reg) (s : State) : Result :=
  withCop1 s (.next (s.writeF fd (Config.cvtWS (s.readF fs)).1).advance)

end Sys2Proof.Machine
end

