-- ==== Sys2Proof/Machine/Integer.lean ====
section
/-! DEFINITION. Integer arithmetic, logic, comparison and conditional move (40_command_table.md, 41_integer_alu.md). One meaning per
instruction, in the order of the opcode table. -/

namespace Sys2Proof.Machine

/-- ADD (40_command_table.md R131): the word sum; overflow raises. -/
def execAdd (rs rt rd : Reg) (s : State) : Result :=
  resultWChecked s (addOverflowW (s.readW rs) (s.readW rt)) rd (s.readW rs + s.readW rt)

/-- ADDU (40_command_table.md R141): the word sum modulo 2^32. -/
def execAddu (rs rt rd : Reg) (s : State) : Result := resultW s rd (s.readW rs + s.readW rt)

/-- SUBU (40_command_table.md R142): the word difference modulo 2^32. -/
def execSubu (rs rt rd : Reg) (s : State) : Result := resultW s rd (s.readW rs - s.readW rt)

/-- LUI (40_command_table.md R162): the immediate in the upper half of a word. -/
def execLui (rt : Reg) (imm : BitVec 16) (s : State) : Result := resultW s rt (imm ++ 0#16)

/-- AND (40_command_table.md R164): bitwise and of 64 bits. -/
def execAnd (rs rt rd : Reg) (s : State) : Result := resultD s rd (s.readD rs &&& s.readD rt)

/-- ADDI (41_integer_alu.md R180): the word sum with the sign-extended immediate; overflow raises. -/
def execAddi (rs rt : Reg) (imm : BitVec 16) (s : State) : Result :=
  resultWChecked s (addOverflowW (s.readW rs) (signImmW imm)) rt (s.readW rs + signImmW imm)

/-- ADDIU (41_integer_alu.md R181): the word sum with the sign-extended immediate, modulo 2^32. -/
def execAddiu (rs rt : Reg) (imm : BitVec 16) (s : State) : Result := resultW s rt (s.readW rs + signImmW imm)

/-- SUB (41_integer_alu.md R182): the word difference; overflow raises. -/
def execSub (rs rt rd : Reg) (s : State) : Result :=
  resultWChecked s (subOverflowW (s.readW rs) (s.readW rt)) rd (s.readW rs - s.readW rt)

/-- ANDI (41_integer_alu.md R183): bitwise and with the zero-extended immediate. -/
def execAndi (rs rt : Reg) (imm : BitVec 16) (s : State) : Result := resultD s rt (s.readD rs &&& zeroImm imm)

/-- ORI (41_integer_alu.md R184): bitwise or with the zero-extended immediate. -/
def execOri (rs rt : Reg) (imm : BitVec 16) (s : State) : Result := resultD s rt (s.readD rs ||| zeroImm imm)

/-- OR (41_integer_alu.md R185): bitwise or of 64 bits. -/
def execOr (rs rt rd : Reg) (s : State) : Result := resultD s rd (s.readD rs ||| s.readD rt)

/-- XOR (41_integer_alu.md R186): bitwise exclusive or of 64 bits. -/
def execXor (rs rt rd : Reg) (s : State) : Result := resultD s rd (s.readD rs ^^^ s.readD rt)

/-- XORI (41_integer_alu.md R187): bitwise exclusive or with the zero-extended immediate. -/
def execXori (rs rt : Reg) (imm : BitVec 16) (s : State) : Result := resultD s rt (s.readD rs ^^^ zeroImm imm)

/-- NOR (41_integer_alu.md R188): complement of the or of 64 bits. -/
def execNor (rs rt rd : Reg) (s : State) : Result := resultD s rd (~~~(s.readD rs ||| s.readD rt))

/-- SLT (41_integer_alu.md R190): signed 64-bit comparison. -/
def execSlt (rs rt rd : Reg) (s : State) : Result := resultD s rd (if (s.readD rs).slt (s.readD rt) then 1 else 0)

/-- SLTI (41_integer_alu.md R191): signed 64-bit comparison with the sign-extended immediate. -/
def execSlti (rs rt : Reg) (imm : BitVec 16) (s : State) : Result :=
  resultD s rt (if (s.readD rs).slt (signImm imm) then 1 else 0)

/-- SLTU (41_integer_alu.md R192): unsigned 64-bit comparison. -/
def execSltu (rs rt rd : Reg) (s : State) : Result := resultD s rd (if (s.readD rs).ult (s.readD rt) then 1 else 0)

/-- SLTIU (41_integer_alu.md R193): unsigned 64-bit comparison with the sign-extended immediate. -/
def execSltiu (rs rt : Reg) (imm : BitVec 16) (s : State) : Result :=
  resultD s rt (if (s.readD rs).ult (signImm imm) then 1 else 0)

/-- MOVN (41_integer_alu.md R194): moves 64 bits when `rt` is not 0; else `rd` is not written. -/
def execMovn (rs rt rd : Reg) (s : State) : Result :=
  if s.readD rt = 0 then .next s.advance else resultD s rd (s.readD rs)

/-- MOVZ (41_integer_alu.md R195): moves 64 bits when `rt` is 0; else `rd` is not written. -/
def execMovz (rs rt rd : Reg) (s : State) : Result :=
  if s.readD rt = 0 then resultD s rd (s.readD rs) else .next s.advance

/-- DADD (41_integer_alu.md R196): the doubleword sum; overflow raises. -/
def execDadd (rs rt rd : Reg) (s : State) : Result :=
  resultDChecked s (addOverflowD (s.readD rs) (s.readD rt)) rd (s.readD rs + s.readD rt)

/-- DADDI (41_integer_alu.md R197): the doubleword sum with the sign-extended immediate; overflow raises. -/
def execDaddi (rs rt : Reg) (imm : BitVec 16) (s : State) : Result :=
  resultDChecked s (addOverflowD (s.readD rs) (signImm imm)) rt (s.readD rs + signImm imm)

/-- DADDIU (41_integer_alu.md R198): the doubleword sum with the sign-extended immediate, modulo 2^64. -/
def execDaddiu (rs rt : Reg) (imm : BitVec 16) (s : State) : Result := resultD s rt (s.readD rs + signImm imm)

/-- DADDU (41_integer_alu.md R199): the doubleword sum modulo 2^64. -/
def execDaddu (rs rt rd : Reg) (s : State) : Result := resultD s rd (s.readD rs + s.readD rt)

/-- DSUB (41_integer_alu.md R200): the doubleword difference; overflow raises. -/
def execDsub (rs rt rd : Reg) (s : State) : Result :=
  resultDChecked s (subOverflowD (s.readD rs) (s.readD rt)) rd (s.readD rs - s.readD rt)

/-- DSUBU (41_integer_alu.md R201): the doubleword difference modulo 2^64. -/
def execDsubu (rs rt rd : Reg) (s : State) : Result := resultD s rd (s.readD rs - s.readD rt)

end Sys2Proof.Machine
end

