-- ==== Sys2Proof/Machine/LoadStore.lean ====
section
/-! DEFINITION. Loads, stores, PREF and SYNC (40_command_table.md, 45_load_store.md). One meaning per
instruction, in the order of the opcode table. -/

namespace Sys2Proof.Machine

/-- `v ‖ old[8(4-n)-1:0]`: `n` loaded bytes on top, the old low bytes kept (45_load_store.md R277). -/
def mergeLeftW (n : Nat) (v old : Word) : Word := (v <<< (8 * (4 - n))) ||| ((old <<< (8 * n)) >>> (8 * n))

/-- `old[31:8n] ‖ v`: `n` loaded bytes at the bottom (45_load_store.md R278). -/
def mergeRightW (n : Nat) (v old : Word) : Word := ((old >>> (8 * n)) <<< (8 * n)) ||| v

/-- `v ‖ old[8(8-n)-1:0]` (45_load_store.md R279). -/
def mergeLeftD (n : Nat) (v old : Dword) : Dword := (v <<< (8 * (8 - n))) ||| ((old <<< (8 * n)) >>> (8 * n))

/-- `old[63:8n] ‖ v` (45_load_store.md R280). -/
def mergeRightD (n : Nat) (v old : Dword) : Dword := ((old >>> (8 * n)) <<< (8 * n)) ||| v

/-- LB (40_command_table.md R139): a byte, sign-extended. -/
def execLb (base rt : Reg) (offset : BitVec 16) (s : State) : Result :=
  let ea := s.effAddr base offset
  loadThen s ea ea 1 1 fun v t => t.writeD rt ((v.setWidth 8).signExtend 64)

/-- SW (40_command_table.md R150): bits 31:0. -/
def execSw (base rt : Reg) (offset : BitVec 16) (s : State) : Result :=
  let ea := s.effAddr base offset
  storeValue s ea ea 4 4 (s.readQ rt)

/-- LW (40_command_table.md R152): a word, sign-extended. -/
def execLw (base rt : Reg) (offset : BitVec 16) (s : State) : Result :=
  let ea := s.effAddr base offset
  loadThen s ea ea 4 4 fun v t => t.writeD rt ((v.setWidth 32).signExtend 64)

/-- LBU (45_load_store.md R271): a byte, zero-extended. -/
def execLbu (base rt : Reg) (offset : BitVec 16) (s : State) : Result :=
  let ea := s.effAddr base offset
  loadThen s ea ea 1 1 fun v t => t.writeD rt ((v.setWidth 8).setWidth 64)

/-- LH (45_load_store.md R272): a halfword, sign-extended. -/
def execLh (base rt : Reg) (offset : BitVec 16) (s : State) : Result :=
  let ea := s.effAddr base offset
  loadThen s ea ea 2 2 fun v t => t.writeD rt ((v.setWidth 16).signExtend 64)

/-- LHU (45_load_store.md R273): a halfword, zero-extended. -/
def execLhu (base rt : Reg) (offset : BitVec 16) (s : State) : Result :=
  let ea := s.effAddr base offset
  loadThen s ea ea 2 2 fun v t => t.writeD rt ((v.setWidth 16).setWidth 64)

/-- LWU (45_load_store.md R274): a word, zero-extended. -/
def execLwu (base rt : Reg) (offset : BitVec 16) (s : State) : Result :=
  let ea := s.effAddr base offset
  loadThen s ea ea 4 4 fun v t => t.writeD rt ((v.setWidth 32).setWidth 64)

/-- LD (45_load_store.md R275): a doubleword. -/
def execLd (base rt : Reg) (offset : BitVec 16) (s : State) : Result :=
  let ea := s.effAddr base offset
  loadThen s ea ea 8 8 fun v t => t.writeD rt (v.setWidth 64)

/-- LQ (45_load_store.md R276): the quadword that contains the address; its low four bits are ignored. -/
def execLq (base rt : Reg) (offset : BitVec 16) (s : State) : Result :=
  let a := alignQuad (s.effAddr base offset)
  loadThen s a a 16 1 fun v t => t.writeQ rt v

/-- LWL (45_load_store.md R277): the bytes from the start of the word to the address, into the top of the word
register. -/
def execLwl (base rt : Reg) (offset : BitVec 16) (s : State) : Result :=
  let ea := s.effAddr base offset
  let n := ea.toNat % 4 + 1
  loadThen s ea (alignWord ea) n 1 fun v t => t.writeW rt (mergeLeftW n (v.setWidth 32) (t.readW rt))

/-- LWR (45_load_store.md R278): the bytes from the address to the end of the word, into the bottom of the word
register; bits 63:32 change only when the whole word is loaded. -/
def execLwr (base rt : Reg) (offset : BitVec 16) (s : State) : Result :=
  let ea := s.effAddr base offset
  let n := 4 - ea.toNat % 4
  loadThen s ea ea n 1 fun v t =>
    if n = 4 then t.writeW rt (v.setWidth 32)
    else t.writeD rt (joinW (highW (t.readD rt)) (mergeRightW n (v.setWidth 32) (t.readW rt)))

/-- LDL (45_load_store.md R279): the bytes from the start of the doubleword to the address, into the top of the
register. -/
def execLdl (base rt : Reg) (offset : BitVec 16) (s : State) : Result :=
  let ea := s.effAddr base offset
  let n := ea.toNat % 8 + 1
  loadThen s ea (alignDword ea) n 1 fun v t => t.writeD rt (mergeLeftD n (v.setWidth 64) (t.readD rt))

/-- LDR (45_load_store.md R280): the bytes from the address to the end of the doubleword, into the bottom of the
register. -/
def execLdr (base rt : Reg) (offset : BitVec 16) (s : State) : Result :=
  let ea := s.effAddr base offset
  let n := 8 - ea.toNat % 8
  loadThen s ea ea n 1 fun v t => t.writeD rt (mergeRightD n (v.setWidth 64) (t.readD rt))

/-- SB (45_load_store.md R281): bits 7:0. -/
def execSb (base rt : Reg) (offset : BitVec 16) (s : State) : Result :=
  let ea := s.effAddr base offset
  storeValue s ea ea 1 1 (s.readQ rt)

/-- SH (45_load_store.md R282): bits 15:0. -/
def execSh (base rt : Reg) (offset : BitVec 16) (s : State) : Result :=
  let ea := s.effAddr base offset
  storeValue s ea ea 2 2 (s.readQ rt)

/-- SD (45_load_store.md R283): bits 63:0. -/
def execSd (base rt : Reg) (offset : BitVec 16) (s : State) : Result :=
  let ea := s.effAddr base offset
  storeValue s ea ea 8 8 (s.readQ rt)

/-- SQ (45_load_store.md R284): all 128 bits to the quadword that contains the address. -/
def execSq (base rt : Reg) (offset : BitVec 16) (s : State) : Result :=
  let a := alignQuad (s.effAddr base offset)
  storeValue s a a 16 1 (s.readQ rt)

/-- SWL (45_load_store.md R285): the top bytes of the word register to the start of the word, up to the address. -/
def execSwl (base rt : Reg) (offset : BitVec 16) (s : State) : Result :=
  let ea := s.effAddr base offset
  let n := ea.toNat % 4 + 1
  storeValue s ea (alignWord ea) n 1 ((s.readW rt >>> (8 * (4 - n))).setWidth 128)

/-- SWR (45_load_store.md R286): the bottom bytes of the word register from the address to the end of the word. -/
def execSwr (base rt : Reg) (offset : BitVec 16) (s : State) : Result :=
  let ea := s.effAddr base offset
  storeValue s ea ea (4 - ea.toNat % 4) 1 (s.readQ rt)

/-- SDL (45_load_store.md R287): the top bytes of the register to the start of the doubleword, up to the address. -/
def execSdl (base rt : Reg) (offset : BitVec 16) (s : State) : Result :=
  let ea := s.effAddr base offset
  let n := ea.toNat % 8 + 1
  storeValue s ea (alignDword ea) n 1 ((s.readD rt >>> (8 * (8 - n))).setWidth 128)

/-- SDR (45_load_store.md R288): the bottom bytes of the register from the address to the end of the doubleword. -/
def execSdr (base rt : Reg) (offset : BitVec 16) (s : State) : Result :=
  let ea := s.effAddr base offset
  storeValue s ea ea (8 - ea.toNat % 8) 1 (s.readQ rt)

/-- PREF (45_load_store.md R290): a hint: no architectural effect. -/
def execPref (_base : Reg) (_hint : BitVec 5) (_offset : BitVec 16) (s : State) : Result := .next s.advance

/-- SYNC (45_load_store.md R291): no architectural effect with one agent. -/
def execSync (_stype : BitVec 5) (s : State) : Result := .next s.advance

end Sys2Proof.Machine
end

