-- ==== Sys2Proof/Machine/MulDiv.lean ====
section
/-! DEFINITION. Multiply, divide, multiply-add and the moves of HI, LO, HI1, LO1 (40_command_table.md, 43_muldiv_hilo.md). One meaning per
instruction, in the order of the opcode table. -/

namespace Sys2Proof.Machine

/-- MULT (40_command_table.md R137): signed product into HI and LO, its low word also into `rd`. -/
def execMult (rs rt rd : Reg) (s : State) : Result := resultMul s rd (sext64 (s.readW rs) * sext64 (s.readW rt))

/-- MFHI (40_command_table.md R147): `HI[63:0]` to `rd`. -/
def execMfhi (rd : Reg) (s : State) : Result := resultD s rd (lowD s.hi)

/-- MFLO (40_command_table.md R148): `LO[63:0]` to `rd`. -/
def execMflo (rd : Reg) (s : State) : Result := resultD s rd (lowD s.lo)

/-- DIV (40_command_table.md R158): signed quotient into LO, remainder into HI. -/
def execDiv (rs rt : Reg) (s : State) : Result := resultDiv s (divSigned (s.readW rs) (s.readW rt))

/-- MULTU (43_muldiv_hilo.md R230): unsigned product into HI and LO, its low word also into `rd`. -/
def execMultu (rs rt rd : Reg) (s : State) : Result := resultMul s rd (zext64 (s.readW rs) * zext64 (s.readW rt))

/-- DIVU (43_muldiv_hilo.md R231): unsigned quotient into LO, remainder into HI. -/
def execDivu (rs rt : Reg) (s : State) : Result := resultDiv s (divUnsigned (s.readW rs) (s.readW rt))

/-- MULT1 (43_muldiv_hilo.md R232): signed product into HI1 and LO1. -/
def execMult1 (rs rt rd : Reg) (s : State) : Result := resultMul1 s rd (sext64 (s.readW rs) * sext64 (s.readW rt))

/-- MULTU1 (43_muldiv_hilo.md R233): unsigned product into HI1 and LO1. -/
def execMultu1 (rs rt rd : Reg) (s : State) : Result := resultMul1 s rd (zext64 (s.readW rs) * zext64 (s.readW rt))

/-- DIV1 (43_muldiv_hilo.md R234): signed quotient into LO1, remainder into HI1. -/
def execDiv1 (rs rt : Reg) (s : State) : Result := resultDiv1 s (divSigned (s.readW rs) (s.readW rt))

/-- DIVU1 (43_muldiv_hilo.md R235): unsigned quotient into LO1, remainder into HI1. -/
def execDivu1 (rs rt : Reg) (s : State) : Result := resultDiv1 s (divUnsigned (s.readW rs) (s.readW rt))

/-- MADD (43_muldiv_hilo.md R236): signed product added to `HI[31:0] ‖ LO[31:0]`. -/
def execMadd (rs rt rd : Reg) (s : State) : Result :=
  resultMul s rd (s.accumulator 0 + sext64 (s.readW rs) * sext64 (s.readW rt))

/-- MADDU (43_muldiv_hilo.md R237): unsigned product added to `HI[31:0] ‖ LO[31:0]`. -/
def execMaddu (rs rt rd : Reg) (s : State) : Result :=
  resultMul s rd (s.accumulator 0 + zext64 (s.readW rs) * zext64 (s.readW rt))

/-- MADD1 (43_muldiv_hilo.md R238): signed product added to `HI[95:64] ‖ LO[95:64]`. -/
def execMadd1 (rs rt rd : Reg) (s : State) : Result :=
  resultMul1 s rd (s.accumulator 2 + sext64 (s.readW rs) * sext64 (s.readW rt))

/-- MADDU1 (43_muldiv_hilo.md R239): unsigned product added to `HI[95:64] ‖ LO[95:64]`. -/
def execMaddu1 (rs rt rd : Reg) (s : State) : Result :=
  resultMul1 s rd (s.accumulator 2 + zext64 (s.readW rs) * zext64 (s.readW rt))

/-- MTHI (43_muldiv_hilo.md R240): `rs` to `HI[63:0]`. -/
def execMthi (rs : Reg) (s : State) : Result := .next (State.advance { s with hi := withLowD s.hi (s.readD rs) })

/-- MTLO (43_muldiv_hilo.md R241): `rs` to `LO[63:0]`. -/
def execMtlo (rs : Reg) (s : State) : Result := .next (State.advance { s with lo := withLowD s.lo (s.readD rs) })

/-- MFHI1 (43_muldiv_hilo.md R242): `HI[127:64]` to `rd`. -/
def execMfhi1 (rd : Reg) (s : State) : Result := resultD s rd (highD s.hi)

/-- MFLO1 (43_muldiv_hilo.md R243): `LO[127:64]` to `rd`. -/
def execMflo1 (rd : Reg) (s : State) : Result := resultD s rd (highD s.lo)

/-- MTHI1 (43_muldiv_hilo.md R244): `rs` to `HI[127:64]`. -/
def execMthi1 (rs : Reg) (s : State) : Result := .next (State.advance { s with hi := withHighD s.hi (s.readD rs) })

/-- MTLO1 (43_muldiv_hilo.md R245): `rs` to `LO[127:64]`. -/
def execMtlo1 (rs : Reg) (s : State) : Result := .next (State.advance { s with lo := withHighD s.lo (s.readD rs) })

end Sys2Proof.Machine
end

