-- ==== Sys2Proof/Machine/ParallelArith.lean ====
section
/-! DEFINITION. Parallel arithmetic, compare, logic and shifts (48_parallel_arith.md). One meaning per
instruction, in the order of the opcode table. -/

namespace Sys2Proof.Machine

/-- The amount of a variable word shift: the low 5 bits of the word lane (48_parallel_arith.md R431). -/
def laneAmount (q : Quad) (k : Nat) : Nat := ((lane 32 q k).extractLsb' 0 5).toNat

/-- PADDB (48_parallel_arith.md R391): byte sums, wrapping. -/
def execPaddb (rs rt rd : Reg) (s : State) : Result :=
  resultQ s rd (bytes16 fun k => lane 8 (s.readQ rs) k + lane 8 (s.readQ rt) k)

/-- PADDH (48_parallel_arith.md R392): halfword sums, wrapping. -/
def execPaddh (rs rt rd : Reg) (s : State) : Result :=
  resultQ s rd (halves8 fun k => lane 16 (s.readQ rs) k + lane 16 (s.readQ rt) k)

/-- PADDW (48_parallel_arith.md R393): word sums, wrapping. -/
def execPaddw (rs rt rd : Reg) (s : State) : Result :=
  resultQ s rd (words4 fun k => lane 32 (s.readQ rs) k + lane 32 (s.readQ rt) k)

/-- PADDSB (48_parallel_arith.md R394): signed saturating byte sums. -/
def execPaddsb (rs rt rd : Reg) (s : State) : Result :=
  resultQ s rd (bytes16 fun k => satS 8 ((lane 8 (s.readQ rs) k).toInt + (lane 8 (s.readQ rt) k).toInt))

/-- PADDSH (48_parallel_arith.md R395): signed saturating halfword sums. -/
def execPaddsh (rs rt rd : Reg) (s : State) : Result :=
  resultQ s rd (halves8 fun k => satS 16 ((lane 16 (s.readQ rs) k).toInt + (lane 16 (s.readQ rt) k).toInt))

/-- PADDSW (48_parallel_arith.md R396): signed saturating word sums. -/
def execPaddsw (rs rt rd : Reg) (s : State) : Result :=
  resultQ s rd (words4 fun k => satS 32 ((lane 32 (s.readQ rs) k).toInt + (lane 32 (s.readQ rt) k).toInt))

/-- PADDUB (48_parallel_arith.md R397): unsigned saturating byte sums. -/
def execPaddub (rs rt rd : Reg) (s : State) : Result :=
  resultQ s rd (bytes16 fun k => satU 8 (((lane 8 (s.readQ rs) k).toNat : Int) + (lane 8 (s.readQ rt) k).toNat))

/-- PADDUH (48_parallel_arith.md R398): unsigned saturating halfword sums. -/
def execPadduh (rs rt rd : Reg) (s : State) : Result :=
  resultQ s rd (halves8 fun k => satU 16 (((lane 16 (s.readQ rs) k).toNat : Int) + (lane 16 (s.readQ rt) k).toNat))

/-- PADDUW (48_parallel_arith.md R399): unsigned saturating word sums. -/
def execPadduw (rs rt rd : Reg) (s : State) : Result :=
  resultQ s rd (words4 fun k => satU 32 (((lane 32 (s.readQ rs) k).toNat : Int) + (lane 32 (s.readQ rt) k).toNat))

/-- PSUBB (48_parallel_arith.md R400): byte differences, wrapping. -/
def execPsubb (rs rt rd : Reg) (s : State) : Result :=
  resultQ s rd (bytes16 fun k => lane 8 (s.readQ rs) k - lane 8 (s.readQ rt) k)

/-- PSUBH (48_parallel_arith.md R401): halfword differences, wrapping. -/
def execPsubh (rs rt rd : Reg) (s : State) : Result :=
  resultQ s rd (halves8 fun k => lane 16 (s.readQ rs) k - lane 16 (s.readQ rt) k)

/-- PSUBW (48_parallel_arith.md R402): word differences, wrapping. -/
def execPsubw (rs rt rd : Reg) (s : State) : Result :=
  resultQ s rd (words4 fun k => lane 32 (s.readQ rs) k - lane 32 (s.readQ rt) k)

/-- PSUBSB (48_parallel_arith.md R403): signed saturating byte differences. -/
def execPsubsb (rs rt rd : Reg) (s : State) : Result :=
  resultQ s rd (bytes16 fun k => satS 8 ((lane 8 (s.readQ rs) k).toInt - (lane 8 (s.readQ rt) k).toInt))

/-- PSUBSH (48_parallel_arith.md R404): signed saturating halfword differences. -/
def execPsubsh (rs rt rd : Reg) (s : State) : Result :=
  resultQ s rd (halves8 fun k => satS 16 ((lane 16 (s.readQ rs) k).toInt - (lane 16 (s.readQ rt) k).toInt))

/-- PSUBSW (48_parallel_arith.md R405): signed saturating word differences. -/
def execPsubsw (rs rt rd : Reg) (s : State) : Result :=
  resultQ s rd (words4 fun k => satS 32 ((lane 32 (s.readQ rs) k).toInt - (lane 32 (s.readQ rt) k).toInt))

/-- PSUBUB (48_parallel_arith.md R406): unsigned saturating byte differences. -/
def execPsubub (rs rt rd : Reg) (s : State) : Result :=
  resultQ s rd (bytes16 fun k => satU 8 (((lane 8 (s.readQ rs) k).toNat : Int) - (lane 8 (s.readQ rt) k).toNat))

/-- PSUBUH (48_parallel_arith.md R407): unsigned saturating halfword differences. -/
def execPsubuh (rs rt rd : Reg) (s : State) : Result :=
  resultQ s rd (halves8 fun k => satU 16 (((lane 16 (s.readQ rs) k).toNat : Int) - (lane 16 (s.readQ rt) k).toNat))

/-- PSUBUW (48_parallel_arith.md R408): unsigned saturating word differences. -/
def execPsubuw (rs rt rd : Reg) (s : State) : Result :=
  resultQ s rd (words4 fun k => satU 32 (((lane 32 (s.readQ rs) k).toNat : Int) - (lane 32 (s.readQ rt) k).toNat))

/-- PADSBH (48_parallel_arith.md R409): the lower four halfwords subtract, the upper four add. -/
def execPadsbh (rs rt rd : Reg) (s : State) : Result :=
  resultQ s rd (halves8 fun k => if k < 4 then lane 16 (s.readQ rs) k - lane 16 (s.readQ rt) k else lane 16 (s.readQ rs) k + lane 16 (s.readQ rt) k)

/-- PABSH (48_parallel_arith.md R410): absolute halfwords, the most negative saturating. -/
def execPabsh (rt rd : Reg) (s : State) : Result := resultQ s rd (halves8 fun k => absSat 16 (lane 16 (s.readQ rt) k))

/-- PABSW (48_parallel_arith.md R411): absolute words, the most negative saturating. -/
def execPabsw (rt rd : Reg) (s : State) : Result := resultQ s rd (words4 fun k => absSat 32 (lane 32 (s.readQ rt) k))

/-- PMAXH (48_parallel_arith.md R412): signed halfword maxima. -/
def execPmaxh (rs rt rd : Reg) (s : State) : Result :=
  resultQ s rd (halves8 fun k => if (lane 16 (s.readQ rt) k).slt (lane 16 (s.readQ rs) k) then lane 16 (s.readQ rs) k else lane 16 (s.readQ rt) k)

/-- PMAXW (48_parallel_arith.md R413): signed word maxima. -/
def execPmaxw (rs rt rd : Reg) (s : State) : Result :=
  resultQ s rd (words4 fun k => if (lane 32 (s.readQ rt) k).slt (lane 32 (s.readQ rs) k) then lane 32 (s.readQ rs) k else lane 32 (s.readQ rt) k)

/-- PMINH (48_parallel_arith.md R414): signed halfword minima. -/
def execPminh (rs rt rd : Reg) (s : State) : Result :=
  resultQ s rd (halves8 fun k => if (lane 16 (s.readQ rs) k).slt (lane 16 (s.readQ rt) k) then lane 16 (s.readQ rs) k else lane 16 (s.readQ rt) k)

/-- PMINW (48_parallel_arith.md R415): signed word minima. -/
def execPminw (rs rt rd : Reg) (s : State) : Result :=
  resultQ s rd (words4 fun k => if (lane 32 (s.readQ rs) k).slt (lane 32 (s.readQ rt) k) then lane 32 (s.readQ rs) k else lane 32 (s.readQ rt) k)

/-- PCEQB (48_parallel_arith.md R416): masks of equal bytes. -/
def execPceqb (rs rt rd : Reg) (s : State) : Result :=
  resultQ s rd (bytes16 fun k => maskLane 8 (decide (lane 8 (s.readQ rs) k = lane 8 (s.readQ rt) k)))

/-- PCEQH (48_parallel_arith.md R417): masks of equal halfwords. -/
def execPceqh (rs rt rd : Reg) (s : State) : Result :=
  resultQ s rd (halves8 fun k => maskLane 16 (decide (lane 16 (s.readQ rs) k = lane 16 (s.readQ rt) k)))

/-- PCEQW (48_parallel_arith.md R418): masks of equal words. -/
def execPceqw (rs rt rd : Reg) (s : State) : Result :=
  resultQ s rd (words4 fun k => maskLane 32 (decide (lane 32 (s.readQ rs) k = lane 32 (s.readQ rt) k)))

/-- PCGTB (48_parallel_arith.md R419): masks of bytes of `rs` greater than those of `rt`, signed. -/
def execPcgtb (rs rt rd : Reg) (s : State) : Result :=
  resultQ s rd (bytes16 fun k => maskLane 8 ((lane 8 (s.readQ rt) k).slt (lane 8 (s.readQ rs) k)))

/-- PCGTH (48_parallel_arith.md R420): masks of halfwords of `rs` greater than those of `rt`, signed. -/
def execPcgth (rs rt rd : Reg) (s : State) : Result :=
  resultQ s rd (halves8 fun k => maskLane 16 ((lane 16 (s.readQ rt) k).slt (lane 16 (s.readQ rs) k)))

/-- PCGTW (48_parallel_arith.md R421): masks of words of `rs` greater than those of `rt`, signed. -/
def execPcgtw (rs rt rd : Reg) (s : State) : Result :=
  resultQ s rd (words4 fun k => maskLane 32 ((lane 32 (s.readQ rt) k).slt (lane 32 (s.readQ rs) k)))

/-- PAND (48_parallel_arith.md R422): and of 128 bits. -/
def execPand (rs rt rd : Reg) (s : State) : Result := resultQ s rd (s.readQ rs &&& s.readQ rt)

/-- PXOR (48_parallel_arith.md R423): exclusive or of 128 bits. -/
def execPxor (rs rt rd : Reg) (s : State) : Result := resultQ s rd (s.readQ rs ^^^ s.readQ rt)

/-- PNOR (48_parallel_arith.md R424): complement of the or of 128 bits. -/
def execPnor (rs rt rd : Reg) (s : State) : Result := resultQ s rd (~~~(s.readQ rs ||| s.readQ rt))

/-- PSLLH (48_parallel_arith.md R425): halfwords shifted left by the low 4 bits of `sa`. -/
def execPsllh (rt rd : Reg) (sa : BitVec 5) (s : State) : Result :=
  resultQ s rd (halves8 fun k => lane 16 (s.readQ rt) k <<< (sa.toNat % 16))

/-- PSRLH (48_parallel_arith.md R426): halfwords shifted right by the low 4 bits of `sa`, zeros enter. -/
def execPsrlh (rt rd : Reg) (sa : BitVec 5) (s : State) : Result :=
  resultQ s rd (halves8 fun k => lane 16 (s.readQ rt) k >>> (sa.toNat % 16))

/-- PSRAH (48_parallel_arith.md R427): halfwords shifted right by the low 4 bits of `sa`, sign bits enter. -/
def execPsrah (rt rd : Reg) (sa : BitVec 5) (s : State) : Result :=
  resultQ s rd (halves8 fun k => (lane 16 (s.readQ rt) k).sshiftRight (sa.toNat % 16))

/-- PSLLW (48_parallel_arith.md R428): words shifted left by `sa`. -/
def execPsllw (rt rd : Reg) (sa : BitVec 5) (s : State) : Result :=
  resultQ s rd (words4 fun k => lane 32 (s.readQ rt) k <<< sa.toNat)

/-- PSRLW (48_parallel_arith.md R429): words shifted right by `sa`, zeros enter. -/
def execPsrlw (rt rd : Reg) (sa : BitVec 5) (s : State) : Result :=
  resultQ s rd (words4 fun k => lane 32 (s.readQ rt) k >>> sa.toNat)

/-- PSRAW (48_parallel_arith.md R430): words shifted right by `sa`, sign bits enter. -/
def execPsraw (rt rd : Reg) (sa : BitVec 5) (s : State) : Result :=
  resultQ s rd (words4 fun k => (lane 32 (s.readQ rt) k).sshiftRight sa.toNat)

/-- PSLLVW (48_parallel_arith.md R431): word lanes 0 and 2 of `rt` shifted left, by the same lanes of `rs` modulo
32, sign-extended to doublewords. -/
def execPsllvw (rs rt rd : Reg) (s : State) : Result :=
  resultQ s rd (joinD
    (sext64 (lane 32 (s.readQ rt) 2 <<< laneAmount (s.readQ rs) 2))
    (sext64 (lane 32 (s.readQ rt) 0 <<< laneAmount (s.readQ rs) 0)))

/-- PSRLVW (48_parallel_arith.md R432): word lanes 0 and 2 of `rt` shifted right, zeros enter, by the same lanes of
`rs` modulo 32, sign-extended to doublewords. -/
def execPsrlvw (rs rt rd : Reg) (s : State) : Result :=
  resultQ s rd (joinD
    (sext64 (lane 32 (s.readQ rt) 2 >>> laneAmount (s.readQ rs) 2))
    (sext64 (lane 32 (s.readQ rt) 0 >>> laneAmount (s.readQ rs) 0)))

/-- PSRAVW (48_parallel_arith.md R433): word lanes 0 and 2 of `rt` shifted right, sign bits enter, by the same lanes
of `rs` modulo 32, sign-extended to doublewords. -/
def execPsravw (rs rt rd : Reg) (s : State) : Result :=
  resultQ s rd (joinD
    (sext64 ((lane 32 (s.readQ rt) 2).sshiftRight (laneAmount (s.readQ rs) 2)))
    (sext64 ((lane 32 (s.readQ rt) 0).sshiftRight (laneAmount (s.readQ rs) 0))))

end Sys2Proof.Machine
end

