-- ==== Sys2Proof/Machine/ParallelPack.lean ====
section
/-! DEFINITION. Parallel multiply, divide, moves of HI and LO, extend and pack, copy and exchange, and the shift amount register
(49_parallel_muldiv_pack.md). One meaning per
instruction, in the order of the opcode table. -/

namespace Sys2Proof.Machine

/-- The signed product of halfword lane `k` (49_parallel_muldiv_pack.md R466). -/
def halfProduct (a b : Quad) (k : Nat) : Word := (lane 16 a k).signExtend 32 * (lane 16 b k).signExtend 32

/-- PEXT5 of one word (49_parallel_muldiv_pack.md R490). -/
def extend5 (w : Word) : Word :=
  w.extractLsb' 15 1 ++ 0#7 ++ w.extractLsb' 10 5 ++ 0#3 ++ w.extractLsb' 5 5 ++ 0#3 ++ w.extractLsb' 0 5 ++ 0#3

/-- PPAC5 of one word (49_parallel_muldiv_pack.md R491). -/
def pack5 (w : Word) : Word :=
  0#16 ++ w.extractLsb' 31 1 ++ w.extractLsb' 19 5 ++ w.extractLsb' 11 5 ++ w.extractLsb' 3 5

/-- How many bits equal the sign bit, counted down from bit `n - 1`, before the first that differs. -/
def runBelow (w : Word) : Nat → Nat
  | 0 => 0
  | n + 1 => if w.getLsbD n = w.getLsbD 31 then runBelow w n + 1 else 0

/-- The count of PLZCW for one word, 0 to 31 (49_parallel_muldiv_pack.md R506). -/
def leadingRun (w : Word) : Word := BitVec.ofNat 32 (runBelow w 31)

/-- The 16 images of the table behind `SaImage`. -/
def saTable : List Dword := (List.range 16).map fun k => Config.saPattern (BitVec.ofNat 4 k)

/-- `SaImage`: the configured table where it is injective, else the byte count itself, so that it is injective whatever the
table is (49_parallel_muldiv_pack.md R531, 93_implementation_defined.md U7; log entry 12). -/
def saImage (k : BitVec 4) : Dword := if saTable.Nodup then Config.saPattern k else k.setWidth 64

/-- The value of SA that an image stands for, among the byte counts below `n`. -/
def saSearch (d : Dword) : Nat → Option (BitVec 4)
  | 0 => none
  | n + 1 => if saImage (BitVec.ofNat 4 n) = d then some (BitVec.ofNat 4 n) else saSearch d n

/-- The value of SA that an image stands for. -/
def saOfImage (d : Dword) : Option (BitVec 4) := saSearch d 16

/-- PMULTW (49_parallel_muldiv_pack.md R461): signed products of word lanes 0 and 2. -/
def execPmultw (rs rt rd : Reg) (s : State) : Result :=
  resultMulPair s rd (sext64 (lane 32 (s.readQ rs) 0) * sext64 (lane 32 (s.readQ rt) 0))
    (sext64 (lane 32 (s.readQ rs) 2) * sext64 (lane 32 (s.readQ rt) 2))

/-- PMULTUW (49_parallel_muldiv_pack.md R462): unsigned products of word lanes 0 and 2. -/
def execPmultuw (rs rt rd : Reg) (s : State) : Result :=
  resultMulPair s rd (zext64 (lane 32 (s.readQ rs) 0) * zext64 (lane 32 (s.readQ rt) 0))
    (zext64 (lane 32 (s.readQ rs) 2) * zext64 (lane 32 (s.readQ rt) 2))

/-- PMADDW (49_parallel_muldiv_pack.md R463): signed products of word lanes 0 and 2 added to the accumulators. -/
def execPmaddw (rs rt rd : Reg) (s : State) : Result :=
  resultMulPair s rd (s.accumulator 0 + sext64 (lane 32 (s.readQ rs) 0) * sext64 (lane 32 (s.readQ rt) 0))
    (s.accumulator 2 + sext64 (lane 32 (s.readQ rs) 2) * sext64 (lane 32 (s.readQ rt) 2))

/-- PMADDUW (49_parallel_muldiv_pack.md R464): unsigned products of word lanes 0 and 2 added to the accumulators. -/
def execPmadduw (rs rt rd : Reg) (s : State) : Result :=
  resultMulPair s rd (s.accumulator 0 + zext64 (lane 32 (s.readQ rs) 0) * zext64 (lane 32 (s.readQ rt) 0))
    (s.accumulator 2 + zext64 (lane 32 (s.readQ rs) 2) * zext64 (lane 32 (s.readQ rt) 2))

/-- PMSUBW (49_parallel_muldiv_pack.md R465): signed products of word lanes 0 and 2 taken from the accumulators. -/
def execPmsubw (rs rt rd : Reg) (s : State) : Result :=
  resultMulPair s rd (s.accumulator 0 - sext64 (lane 32 (s.readQ rs) 0) * sext64 (lane 32 (s.readQ rt) 0))
    (s.accumulator 2 - sext64 (lane 32 (s.readQ rs) 2) * sext64 (lane 32 (s.readQ rt) 2))

/-- PMULTH (49_parallel_muldiv_pack.md R466): signed halfword products into the slots. -/
def execPmulth (rs rt rd : Reg) (s : State) : Result :=
  resultSlots s rd fun k => halfProduct (s.readQ rs) (s.readQ rt) k

/-- PMADDH (49_parallel_muldiv_pack.md R467): signed halfword products added to the slots. -/
def execPmaddh (rs rt rd : Reg) (s : State) : Result :=
  resultSlots s rd fun k => s.slot k + halfProduct (s.readQ rs) (s.readQ rt) k

/-- PMSUBH (49_parallel_muldiv_pack.md R468): signed halfword products taken from the slots. -/
def execPmsubh (rs rt rd : Reg) (s : State) : Result :=
  resultSlots s rd fun k => s.slot k - halfProduct (s.readQ rs) (s.readQ rt) k

/-- PHMADH (49_parallel_muldiv_pack.md R469): sums of neighbouring signed halfword products. -/
def execPhmadh (rs rt rd : Reg) (s : State) : Result :=
  resultHorizontal s rd fun j => halfProduct (s.readQ rs) (s.readQ rt) (2 * j + 1) + halfProduct (s.readQ rs) (s.readQ rt) (2 * j)

/-- PHMSBH (49_parallel_muldiv_pack.md R470): odd-lane products less even-lane products. -/
def execPhmsbh (rs rt rd : Reg) (s : State) : Result :=
  resultHorizontal s rd fun j => halfProduct (s.readQ rs) (s.readQ rt) (2 * j + 1) - halfProduct (s.readQ rs) (s.readQ rt) (2 * j)

/-- PDIVW (49_parallel_muldiv_pack.md R471): signed division of word lanes 0 and 2. -/
def execPdivw (rs rt : Reg) (s : State) : Result :=
  resultDivPair s (divSigned (lane 32 (s.readQ rs) 0) (lane 32 (s.readQ rt) 0))
    (divSigned (lane 32 (s.readQ rs) 2) (lane 32 (s.readQ rt) 2))

/-- PDIVUW (49_parallel_muldiv_pack.md R472): unsigned division of word lanes 0 and 2. -/
def execPdivuw (rs rt : Reg) (s : State) : Result :=
  resultDivPair s (divUnsigned (lane 32 (s.readQ rs) 0) (lane 32 (s.readQ rt) 0))
    (divUnsigned (lane 32 (s.readQ rs) 2) (lane 32 (s.readQ rt) 2))

/-- PDIVBW (49_parallel_muldiv_pack.md R473): four word dividends by the one halfword divisor; the remainders are
kept to 16 bits. -/
def execPdivbw (rs rt : Reg) (s : State) : Result :=
  let qr := fun k => divBroadcast (lane 32 (s.readQ rs) k) (lane 16 (s.readQ rt) 0)
  .next (s.writeHiLoQ (words4 fun k => (BitVec.ofInt 16 (qr k).2).signExtend 32) (words4 fun k => truncW (qr k).1)).advance

/-- PMFHI (49_parallel_muldiv_pack.md R474): all of HI to `rd`. -/
def execPmfhi (rd : Reg) (s : State) : Result := resultQ s rd s.hi

/-- PMFLO (49_parallel_muldiv_pack.md R475): all of LO to `rd`. -/
def execPmflo (rd : Reg) (s : State) : Result := resultQ s rd s.lo

/-- PMTHI (49_parallel_muldiv_pack.md R476): all of `rs` to HI. -/
def execPmthi (rs : Reg) (s : State) : Result := .next (State.advance { s with hi := s.readQ rs })

/-- PMTLO (49_parallel_muldiv_pack.md R477): all of `rs` to LO. -/
def execPmtlo (rs : Reg) (s : State) : Result := .next (State.advance { s with lo := s.readQ rs })

/-- PMFHL.LH (49_parallel_muldiv_pack.md R478): the low halfword of each slot. -/
def execPmfhlLh (rd : Reg) (s : State) : Result := resultQ s rd (halves8 fun k => (s.slot k).setWidth 16)

/-- PMFHL.LW (49_parallel_muldiv_pack.md R479): the even word lanes of LO and HI. -/
def execPmfhlLw (rd : Reg) (s : State) : Result :=
  resultQ s rd (words4 fun k => match k with
    | 0 => lane 32 s.lo 0
    | 1 => lane 32 s.hi 0
    | 2 => lane 32 s.lo 2
    | _ => lane 32 s.hi 2)

/-- PMFHL.SH (49_parallel_muldiv_pack.md R480): each slot saturated to a signed halfword. -/
def execPmfhlSh (rd : Reg) (s : State) : Result := resultQ s rd (halves8 fun k => satS 16 (s.slot k).toInt)

/-- PMFHL.SLW (49_parallel_muldiv_pack.md R481): each accumulator saturated to a signed word and sign-extended. -/
def execPmfhlSlw (rd : Reg) (s : State) : Result :=
  resultQ s rd (joinD (sext64 (satS 32 (s.accumulator 2).toInt)) (sext64 (satS 32 (s.accumulator 0).toInt)))

/-- PMFHL.UW (49_parallel_muldiv_pack.md R482): the odd word lanes of LO and HI. -/
def execPmfhlUw (rd : Reg) (s : State) : Result :=
  resultQ s rd (words4 fun k => match k with
    | 0 => lane 32 s.lo 1
    | 1 => lane 32 s.hi 1
    | 2 => lane 32 s.lo 3
    | _ => lane 32 s.hi 3)

/-- PMTHL.LW (49_parallel_muldiv_pack.md R483): `rs` to the even word lanes of LO and HI; the odd ones keep their
value. -/
def execPmthlLw (rs : Reg) (s : State) : Result :=
  let v := s.readQ rs
  let lo := words4 fun k => match k with
    | 0 => lane 32 v 0
    | 1 => lane 32 s.lo 1
    | 2 => lane 32 v 2
    | _ => lane 32 s.lo 3
  let hi := words4 fun k => match k with
    | 0 => lane 32 v 1
    | 1 => lane 32 s.hi 1
    | 2 => lane 32 v 3
    | _ => lane 32 s.hi 3
  .next (s.writeHiLoQ hi lo).advance

/-- PEXTLB (49_parallel_muldiv_pack.md R484): interleaves the lower bytes: `rt` gives the even lanes, `rs` the odd
ones. -/
def execPextlb (rs rt rd : Reg) (s : State) : Result :=
  resultQ s rd (bytes16 fun k =>
    if k % 2 = 0 then lane 8 (s.readQ rt) (k / 2) else lane 8 (s.readQ rs) (k / 2))

/-- PEXTLH (49_parallel_muldiv_pack.md R485): interleaves the lower halfwords: `rt` gives the even lanes, `rs` the
odd ones. -/
def execPextlh (rs rt rd : Reg) (s : State) : Result :=
  resultQ s rd (halves8 fun k =>
    if k % 2 = 0 then lane 16 (s.readQ rt) (k / 2) else lane 16 (s.readQ rs) (k / 2))

/-- PEXTLW (49_parallel_muldiv_pack.md R486): interleaves the lower words: `rt` gives the even lanes, `rs` the odd
ones. -/
def execPextlw (rs rt rd : Reg) (s : State) : Result :=
  resultQ s rd (words4 fun k =>
    if k % 2 = 0 then lane 32 (s.readQ rt) (k / 2) else lane 32 (s.readQ rs) (k / 2))

/-- PEXTUB (49_parallel_muldiv_pack.md R487): interleaves the upper bytes: `rt` gives the even lanes, `rs` the odd
ones. -/
def execPextub (rs rt rd : Reg) (s : State) : Result :=
  resultQ s rd (bytes16 fun k =>
    if k % 2 = 0 then lane 8 (s.readQ rt) (k / 2 + 8) else lane 8 (s.readQ rs) (k / 2 + 8))

/-- PEXTUH (49_parallel_muldiv_pack.md R488): interleaves the upper halfwords: `rt` gives the even lanes, `rs` the
odd ones. -/
def execPextuh (rs rt rd : Reg) (s : State) : Result :=
  resultQ s rd (halves8 fun k =>
    if k % 2 = 0 then lane 16 (s.readQ rt) (k / 2 + 4) else lane 16 (s.readQ rs) (k / 2 + 4))

/-- PEXTUW (49_parallel_muldiv_pack.md R489): interleaves the upper words: `rt` gives the even lanes, `rs` the odd
ones. -/
def execPextuw (rs rt rd : Reg) (s : State) : Result :=
  resultQ s rd (words4 fun k =>
    if k % 2 = 0 then lane 32 (s.readQ rt) (k / 2 + 2) else lane 32 (s.readQ rs) (k / 2 + 2))

/-- PEXT5 (49_parallel_muldiv_pack.md R490): 1-5-5-5 bits of each word spread over its four bytes. -/
def execPext5 (rt rd : Reg) (s : State) : Result := resultQ s rd (words4 fun k => extend5 (lane 32 (s.readQ rt) k))

/-- PPAC5 (49_parallel_muldiv_pack.md R491): the top bits of the four bytes of each word packed to 1-5-5-5 bits. -/
def execPpac5 (rt rd : Reg) (s : State) : Result := resultQ s rd (words4 fun k => pack5 (lane 32 (s.readQ rt) k))

/-- PPACB (49_parallel_muldiv_pack.md R492): the even bytes of `rt`, then those of `rs`. -/
def execPpacb (rs rt rd : Reg) (s : State) : Result :=
  resultQ s rd (bytes16 fun k =>
    if k < 8 then lane 8 (s.readQ rt) (2 * k) else lane 8 (s.readQ rs) (2 * (k - 8)))

/-- PPACH (49_parallel_muldiv_pack.md R493): the even halfwords of `rt`, then those of `rs`. -/
def execPpach (rs rt rd : Reg) (s : State) : Result :=
  resultQ s rd (halves8 fun k =>
    if k < 4 then lane 16 (s.readQ rt) (2 * k) else lane 16 (s.readQ rs) (2 * (k - 4)))

/-- PPACW (49_parallel_muldiv_pack.md R494): the even words of `rt`, then those of `rs`. -/
def execPpacw (rs rt rd : Reg) (s : State) : Result :=
  resultQ s rd (words4 fun k =>
    if k < 2 then lane 32 (s.readQ rt) (2 * k) else lane 32 (s.readQ rs) (2 * (k - 2)))

/-- PCPYH (49_parallel_muldiv_pack.md R495): the lowest halfword of each doubleword over that doubleword. -/
def execPcpyh (rt rd : Reg) (s : State) : Result :=
  resultQ s rd (halves8 fun k => lane 16 (s.readQ rt) (if k < 4 then 0 else 4))

/-- PCPYLD (49_parallel_muldiv_pack.md R496): the lower doublewords, `rs` on top. -/
def execPcpyld (rs rt rd : Reg) (s : State) : Result :=
  resultQ s rd (joinD (lane 64 (s.readQ rs) 0) (lane 64 (s.readQ rt) 0))

/-- PCPYUD (49_parallel_muldiv_pack.md R497): the upper doublewords, `rs` at the bottom. -/
def execPcpyud (rs rt rd : Reg) (s : State) : Result :=
  resultQ s rd (joinD (lane 64 (s.readQ rt) 1) (lane 64 (s.readQ rs) 1))

/-- PEXCH (49_parallel_muldiv_pack.md R498): swaps the two middle halfwords of each doubleword. -/
def execPexch (rt rd : Reg) (s : State) : Result :=
  resultQ s rd (halves8 fun k => lane 16 (s.readQ rt) (match k with
    | 0 => 0
    | 1 => 2
    | 2 => 1
    | 3 => 3
    | 4 => 4
    | 5 => 6
    | 6 => 5
    | _ => 7))

/-- PEXCW (49_parallel_muldiv_pack.md R499): swaps the two middle words. -/
def execPexcw (rt rd : Reg) (s : State) : Result :=
  resultQ s rd (words4 fun k => lane 32 (s.readQ rt) (match k with
    | 0 => 0
    | 1 => 2
    | 2 => 1
    | _ => 3))

/-- PEXEH (49_parallel_muldiv_pack.md R500): swaps the two even halfwords of each doubleword. -/
def execPexeh (rt rd : Reg) (s : State) : Result :=
  resultQ s rd (halves8 fun k => lane 16 (s.readQ rt) (match k with
    | 0 => 2
    | 1 => 1
    | 2 => 0
    | 3 => 3
    | 4 => 6
    | 5 => 5
    | 6 => 4
    | _ => 7))

/-- PEXEW (49_parallel_muldiv_pack.md R501): swaps the two even words. -/
def execPexew (rt rd : Reg) (s : State) : Result :=
  resultQ s rd (words4 fun k => lane 32 (s.readQ rt) (match k with
    | 0 => 2
    | 1 => 1
    | 2 => 0
    | _ => 3))

/-- PINTH (49_parallel_muldiv_pack.md R502): the lower halfwords of `rt` with the upper ones of `rs`. -/
def execPinth (rs rt rd : Reg) (s : State) : Result :=
  resultQ s rd (halves8 fun k =>
    if k % 2 = 0 then lane 16 (s.readQ rt) (k / 2) else lane 16 (s.readQ rs) (k / 2 + 4))

/-- PINTEH (49_parallel_muldiv_pack.md R503): the even halfwords of both sources. -/
def execPinteh (rs rt rd : Reg) (s : State) : Result :=
  resultQ s rd (halves8 fun k =>
    if k % 2 = 0 then lane 16 (s.readQ rt) k else lane 16 (s.readQ rs) (k - 1))

/-- PREVH (49_parallel_muldiv_pack.md R504): reverses the halfwords of each doubleword. -/
def execPrevh (rt rd : Reg) (s : State) : Result :=
  resultQ s rd (halves8 fun k => lane 16 (s.readQ rt) (match k with
    | 0 => 3
    | 1 => 2
    | 2 => 1
    | 3 => 0
    | 4 => 7
    | 5 => 6
    | 6 => 5
    | _ => 4))

/-- PROT3W (49_parallel_muldiv_pack.md R505): rotates the lower three words. -/
def execProt3w (rt rd : Reg) (s : State) : Result :=
  resultQ s rd (words4 fun k => lane 32 (s.readQ rt) (match k with
    | 0 => 1
    | 1 => 2
    | 2 => 0
    | _ => 3))

/-- PLZCW (49_parallel_muldiv_pack.md R506): for each of the two lower words, the number of bits below the sign bit
that equal it before the first that differs. -/
def execPlzcw (rs rd : Reg) (s : State) : Result :=
  resultD s rd (joinW (leadingRun (lane 32 (s.readQ rs) 1)) (leadingRun (lane 32 (s.readQ rs) 0)))

/-- MFSA (49_parallel_muldiv_pack.md R531): the image of SA. -/
def execMfsa (rd : Reg) (s : State) : Result := resultD s rd (saImage s.saBytes)

/-- MTSA (49_parallel_muldiv_pack.md R532): SA from its image; a foreign value gives a drawn one (log entry 12). -/
def execMtsa (rs : Reg) (s : State) : Result :=
  match saOfImage (s.readD rs) with
  | some k => .next (State.advance { s with saBytes := k })
  | none => .next (State.advance { s with saBytes := Config.mtsaForeign s.draws, draws := s.draws + 1 })

/-- MTSAB (49_parallel_muldiv_pack.md R533): SA becomes 8 times the byte count. -/
def execMtsab (rs : Reg) (imm : BitVec 16) (s : State) : Result :=
  .next (State.advance { s with saBytes := (s.readD rs).extractLsb' 0 4 ^^^ imm.extractLsb' 0 4 })

/-- MTSAH (49_parallel_muldiv_pack.md R534): SA becomes 16 times the halfword count. -/
def execMtsah (rs : Reg) (imm : BitVec 16) (s : State) : Result :=
  .next (State.advance { s with saBytes := ((s.readD rs).extractLsb' 0 3 ^^^ imm.extractLsb' 0 3) ++ 0#1 })

/-- QFSRV (49_parallel_muldiv_pack.md R535): `rs ‖ rt` shifted right by SA, the low 128 bits. -/
def execQfsrv (rs rt rd : Reg) (s : State) : Result :=
  resultQ s rd (((s.readQ rs ++ s.readQ rt : BitVec 256) >>> (8 * s.saBytes.toNat)).setWidth 128)

end Sys2Proof.Machine
end

