-- ==== Sys2Proof/Machine/Shift.lean ====
section
/-! DEFINITION. The scalar shifts (42_shifts.md). One meaning per
instruction, in the order of the opcode table. -/

namespace Sys2Proof.Machine

/-- The amount of a word shift by a register: `x[rs][4:0]` (42_shifts.md R213). -/
def shiftAmount5 (d : Dword) : Nat := (d.extractLsb' 0 5).toNat

/-- The amount of a doubleword shift by a register: `x[rs][5:0]` (42_shifts.md R222). -/
def shiftAmount6 (d : Dword) : Nat := (d.extractLsb' 0 6).toNat

/-- SLL (42_shifts.md R210): word shift left. -/
def execSll (rt rd : Reg) (sa : BitVec 5) (s : State) : Result := resultW s rd (s.readW rt <<< sa.toNat)

/-- SRL (42_shifts.md R211): word shift right, zeros enter. -/
def execSrl (rt rd : Reg) (sa : BitVec 5) (s : State) : Result := resultW s rd (s.readW rt >>> sa.toNat)

/-- SRA (42_shifts.md R212): word shift right, copies of bit 31 enter. -/
def execSra (rt rd : Reg) (sa : BitVec 5) (s : State) : Result := resultW s rd ((s.readW rt).sshiftRight sa.toNat)

/-- SLLV (42_shifts.md R213): word shift left by `rs` modulo 32. -/
def execSllv (rs rt rd : Reg) (s : State) : Result := resultW s rd (s.readW rt <<< shiftAmount5 (s.readD rs))

/-- SRLV (42_shifts.md R214): word shift right by `rs` modulo 32, zeros enter. -/
def execSrlv (rs rt rd : Reg) (s : State) : Result := resultW s rd (s.readW rt >>> shiftAmount5 (s.readD rs))

/-- SRAV (42_shifts.md R215): word shift right by `rs` modulo 32, copies of bit 31 enter. -/
def execSrav (rs rt rd : Reg) (s : State) : Result :=
  resultW s rd ((s.readW rt).sshiftRight (shiftAmount5 (s.readD rs)))

/-- DSLL (42_shifts.md R216): doubleword shift left. -/
def execDsll (rt rd : Reg) (sa : BitVec 5) (s : State) : Result := resultD s rd (s.readD rt <<< sa.toNat)

/-- DSRL (42_shifts.md R217): doubleword shift right, zeros enter. -/
def execDsrl (rt rd : Reg) (sa : BitVec 5) (s : State) : Result := resultD s rd (s.readD rt >>> sa.toNat)

/-- DSRA (42_shifts.md R218): doubleword shift right, copies of bit 63 enter. -/
def execDsra (rt rd : Reg) (sa : BitVec 5) (s : State) : Result := resultD s rd ((s.readD rt).sshiftRight sa.toNat)

/-- DSLL32 (42_shifts.md R219): doubleword shift left by `sa` + 32. -/
def execDsll32 (rt rd : Reg) (sa : BitVec 5) (s : State) : Result := resultD s rd (s.readD rt <<< (sa.toNat + 32))

/-- DSRL32 (42_shifts.md R220): doubleword shift right by `sa` + 32, zeros enter. -/
def execDsrl32 (rt rd : Reg) (sa : BitVec 5) (s : State) : Result := resultD s rd (s.readD rt >>> (sa.toNat + 32))

/-- DSRA32 (42_shifts.md R221): doubleword shift right by `sa` + 32, copies of bit 63 enter. -/
def execDsra32 (rt rd : Reg) (sa : BitVec 5) (s : State) : Result :=
  resultD s rd ((s.readD rt).sshiftRight (sa.toNat + 32))

/-- DSLLV (42_shifts.md R222): doubleword shift left by `rs` modulo 64. -/
def execDsllv (rs rt rd : Reg) (s : State) : Result := resultD s rd (s.readD rt <<< shiftAmount6 (s.readD rs))

/-- DSRLV (42_shifts.md R223): doubleword shift right by `rs` modulo 64, zeros enter. -/
def execDsrlv (rs rt rd : Reg) (s : State) : Result := resultD s rd (s.readD rt >>> shiftAmount6 (s.readD rs))

/-- DSRAV (42_shifts.md R224): doubleword shift right by `rs` modulo 64, copies of bit 63 enter. -/
def execDsrav (rs rt rd : Reg) (s : State) : Result :=
  resultD s rd ((s.readD rt).sshiftRight (shiftAmount6 (s.readD rs)))

end Sys2Proof.Machine
end

