-- ==== Sys2Proof/Machine/System.lean ====
section
/-! DEFINITION. SYSCALL, BREAK, the conditional traps, ERET, EI, DI and the coprocessor-0 moves and branches (40_command_table.md,
46_trap_system_cop0.md). One meaning per
instruction, in the order of the opcode table. -/

namespace Sys2Proof.Machine

/-- EI and DI work where EDI (bit 17) is 1, EXL or ERL is 1, or KSU is 00 (46_trap_system_cop0.md R314). -/
def interruptSwitchAllowed (s : State) : Bool :=
  s.statusBit 17 || s.statusBit 1 || s.statusBit 2 || (!s.statusBit 4 && !s.statusBit 3)

/-- `Status.EIE <- b`: bit 16. -/
def setEie (s : State) (b : Bool) : State :=
  { s with cop0 := { s.cop0 with status := setBit s.cop0.status 16 b } }

/-- The fields of Status that exist (10_state.md R41). -/
def statusMask : Word := 0xF0C79C1F

/-- The fields of Cause that are stored (10_state.md R42). -/
def causeMask : Word := 0xF007807C

/-- The fields of Config that exist (10_state.md R47). -/
def configMask : Word := 0x70073FC7

/-- PRId: bits 31:16 are zero (10_state.md R47). -/
def prid : Word := 0#16 ++ Config.prid16

/-- Status as MFC0 reads it: the fields that read 0 are 0. -/
def statusView (s : State) : Word := s.cop0.status &&& statusMask

/-- Cause as MFC0 reads it: IP[2] (bit 10) and IP[3] (bit 11) follow the lines. -/
def causeView (s : State) : Word :=
  setBit (setBit (s.cop0.cause &&& causeMask) 10 s.int0) 11 s.int1

/-- What reading a coprocessor-0 register answers. -/
inductive Cop0Value where
  /-- The value of the register. -/
  | value (v : Word)
  /-- A draw. -/
  | drawn (v : Word)
  /-- The model refuses. -/
  | refuse (r : Refusal)
  deriving DecidableEq, Repr

/-- `C0read(n)` (46_trap_system_cop0.md R320). Numbers 24 and 25 are reached by MFBPC and MFPS; a term of MFC0 that names them
reads the same register (log entry 28). -/
def readCop0 (s : State) (n : Reg) : Cop0Value :=
  match n.toNat with
  | 7 => .drawn (Config.c0Reserved s.draws)
  | 8 => .value s.cop0.badVAddr
  | 9 => .drawn (Config.count s.draws)
  | 11 => .value s.cop0.compare
  | 12 => .value (statusView s)
  | 13 => .value (causeView s)
  | 14 => .value s.cop0.epc
  | 15 => .value prid
  | 16 => .value (s.cop0.config &&& configMask)
  | 17 => .drawn (Config.c0Reserved s.draws)
  | 18 => .drawn (Config.c0Reserved s.draws)
  | 19 => .drawn (Config.c0Reserved s.draws)
  | 20 => .drawn (Config.c0Reserved s.draws)
  | 21 => .drawn (Config.c0Reserved s.draws)
  | 22 => .drawn (Config.c0Reserved s.draws)
  | 23 => .value s.cop0.badPAddr
  | 24 => .value s.dbg.bpc
  | 25 => .value s.perf.pccr
  | 26 => .drawn (Config.c0Reserved s.draws)
  | 27 => .drawn (Config.c0Reserved s.draws)
  | 30 => .value s.cop0.errorEpc
  | 31 => .drawn (Config.c0Reserved s.draws)
  | _ => .refuse (.translationRegister n)

/-- MTBPC: a value with IAE, DRE or DWE (bits 31, 30, 29) set is refused (46_trap_system_cop0.md R333). -/
def writeBpc (s : State) (v : Word) : Except Refusal State :=
  if v &&& 0xE0000000 = 0 then .ok { s with dbg := { s.dbg with bpc := v } } else .error .breakpointEnable

/-- MTPS: a value with CTE (bit 31) set is refused (46_trap_system_cop0.md R342). -/
def writePccr (s : State) (v : Word) : Except Refusal State :=
  if v.getLsbD 31 then .error .counterEnable else .ok { s with perf := { s.perf with pccr := v } }

/-- `C0write(12, v)`: KSU = 11 (bits 4:3) is refused (46_trap_system_cop0.md R321, 60_exceptions.md R560). -/
def writeStatus (s : State) (v : Word) : Except Refusal State :=
  if v.getLsbD 4 && v.getLsbD 3 then .error .ksuReservedWrite
  else .ok { s with cop0 := { s.cop0 with status := v &&& statusMask } }

/-- `C0write(n, v)` (46_trap_system_cop0.md R321). A write of Compare clears IP[7] (bit 15 of Cause). A term of MTC0 that names
24 or 25 writes as MTBPC or MTPS (log entry 28). -/
def writeCop0 (s : State) (n : Reg) (v : Word) : Except Refusal State :=
  match n.toNat with
  | 7 => .ok s
  | 8 => .ok s
  | 9 => .ok { s with cop0 := { s.cop0 with count := v } }
  | 11 => .ok { s with cop0 := { s.cop0 with compare := v, cause := setBit s.cop0.cause 15 false } }
  | 12 => writeStatus s v
  | 13 => .error .causeWrite
  | 14 => .ok { s with cop0 := { s.cop0 with epc := v } }
  | 15 => .ok s
  | 16 => .error .configWrite
  | 17 => .ok s
  | 18 => .ok s
  | 19 => .ok s
  | 20 => .ok s
  | 21 => .ok s
  | 22 => .ok s
  | 23 => .ok s
  | 24 => writeBpc s v
  | 25 => writePccr s v
  | 26 => .ok s
  | 27 => .ok s
  | 30 => .ok { s with cop0 := { s.cop0 with errorEpc := v } }
  | 31 => .ok s
  | _ => .error (.translationRegister n)

/-- SYSCALL (40_command_table.md R149): raises SystemCall; the code is not interpreted. A launched run hands the call to `SyscallEnv`
first (Launch.lean; log entries 14, 36). -/
def execSyscall (_code : BitVec 20) (s : State) : Result := raise .systemCall s

/-- BREAK (46_trap_system_cop0.md R300): raises Breakpoint; the code is not interpreted. -/
def execBreak (_code : BitVec 20) (s : State) : Result := raise .breakpoint s

/-- TGE (46_trap_system_cop0.md R301): traps if `rs` >= `rt`, signed. -/
def execTge (rs rt : Reg) (_code : BitVec 10) (s : State) : Result := trapIf ((s.readD rt).sle (s.readD rs)) s

/-- TGEU (46_trap_system_cop0.md R302): traps if `rs` >= `rt`, unsigned. -/
def execTgeu (rs rt : Reg) (_code : BitVec 10) (s : State) : Result := trapIf ((s.readD rt).ule (s.readD rs)) s

/-- TLT (46_trap_system_cop0.md R303): traps if `rs` < `rt`, signed. -/
def execTlt (rs rt : Reg) (_code : BitVec 10) (s : State) : Result := trapIf ((s.readD rs).slt (s.readD rt)) s

/-- TLTU (46_trap_system_cop0.md R304): traps if `rs` < `rt`, unsigned. -/
def execTltu (rs rt : Reg) (_code : BitVec 10) (s : State) : Result := trapIf ((s.readD rs).ult (s.readD rt)) s

/-- TEQ (46_trap_system_cop0.md R305): traps if `rs` = `rt`. -/
def execTeq (rs rt : Reg) (_code : BitVec 10) (s : State) : Result := trapIf (decide (s.readD rs = s.readD rt)) s

/-- TNE (46_trap_system_cop0.md R306): traps if `rs` differs from `rt`. -/
def execTne (rs rt : Reg) (_code : BitVec 10) (s : State) : Result := trapIf (decide (s.readD rs ≠ s.readD rt)) s

/-- TGEI (46_trap_system_cop0.md R307): traps if `rs` >= the sign-extended immediate, signed. -/
def execTgei (rs : Reg) (imm : BitVec 16) (s : State) : Result := trapIf ((signImm imm).sle (s.readD rs)) s

/-- TGEIU (46_trap_system_cop0.md R308): traps if `rs` >= the sign-extended immediate, unsigned. -/
def execTgeiu (rs : Reg) (imm : BitVec 16) (s : State) : Result := trapIf ((signImm imm).ule (s.readD rs)) s

/-- TLTI (46_trap_system_cop0.md R309): traps if `rs` < the sign-extended immediate, signed. -/
def execTlti (rs : Reg) (imm : BitVec 16) (s : State) : Result := trapIf ((s.readD rs).slt (signImm imm)) s

/-- TLTIU (46_trap_system_cop0.md R310): traps if `rs` < the sign-extended immediate, unsigned. -/
def execTltiu (rs : Reg) (imm : BitVec 16) (s : State) : Result := trapIf ((s.readD rs).ult (signImm imm)) s

/-- TEQI (46_trap_system_cop0.md R311): traps if `rs` = the sign-extended immediate. -/
def execTeqi (rs : Reg) (imm : BitVec 16) (s : State) : Result := trapIf (decide (s.readD rs = signImm imm)) s

/-- TNEI (46_trap_system_cop0.md R312): traps if `rs` differs from the sign-extended immediate. -/
def execTnei (rs : Reg) (imm : BitVec 16) (s : State) : Result := trapIf (decide (s.readD rs ≠ signImm imm)) s

/-- ERET (46_trap_system_cop0.md R313): return from exception, no delay slot. -/
def execEret (s : State) : Result := withCop0 s (if s.bd then .fault .eretInDelaySlot else .next (exceptionReturn s))

/-- EI (46_trap_system_cop0.md R314): sets EIE where the mode or EDI allows it, else nothing. -/
def execEi (s : State) : Result := .next (State.advance (if interruptSwitchAllowed s then setEie s true else s))

/-- DI (46_trap_system_cop0.md R315): clears EIE where the mode or EDI allows it, else nothing. -/
def execDi (s : State) : Result := .next (State.advance (if interruptSwitchAllowed s then setEie s false else s))

/-- MFC0 (46_trap_system_cop0.md R320): a coprocessor-0 register to `rt`, sign-extended. -/
def execMfc0 (rt rd : Reg) (s : State) : Result :=
  withCop0 s (match readCop0 s rd with
    | .value v => resultW s rt v
    | .drawn v => resultW { s with draws := s.draws + 1 } rt v
    | .refuse r => .refused r)

/-- MTC0 (46_trap_system_cop0.md R321): bits 31:0 of `rt` to a coprocessor-0 register. -/
def execMtc0 (rt rd : Reg) (s : State) : Result :=
  withCop0 s (match writeCop0 s rd (s.readW rt) with
    | .ok t => .next t.advance
    | .error r => .refused r)

/-- BC0F (46_trap_system_cop0.md R322): branch if the drawn CpCond0 is 0. -/
def execBc0f (offset : BitVec 16) (s : State) : Result :=
  withCop0 s (branchIf (!Config.cpCond0 s.draws) { s with draws := s.draws + 1 } (s.branchTarget offset))

/-- BC0FL (46_trap_system_cop0.md R323): branch likely if the drawn CpCond0 is 0. -/
def execBc0fl (offset : BitVec 16) (s : State) : Result :=
  withCop0 s (branchLikelyIf (!Config.cpCond0 s.draws) { s with draws := s.draws + 1 } (s.branchTarget offset))

/-- BC0T (46_trap_system_cop0.md R324): branch if the drawn CpCond0 is 1. -/
def execBc0t (offset : BitVec 16) (s : State) : Result :=
  withCop0 s (branchIf (Config.cpCond0 s.draws) { s with draws := s.draws + 1 } (s.branchTarget offset))

/-- BC0TL (46_trap_system_cop0.md R325): branch likely if the drawn CpCond0 is 1. -/
def execBc0tl (offset : BitVec 16) (s : State) : Result :=
  withCop0 s (branchLikelyIf (Config.cpCond0 s.draws) { s with draws := s.draws + 1 } (s.branchTarget offset))

/-- MFBPC (46_trap_system_cop0.md R326): BPC to `rt`, sign-extended. -/
def execMfbpc (rt : Reg) (s : State) : Result := withCop0 s (resultW s rt s.dbg.bpc)

/-- MFIAB (46_trap_system_cop0.md R327): IAB to `rt`, sign-extended. -/
def execMfiab (rt : Reg) (s : State) : Result := withCop0 s (resultW s rt s.dbg.iab)

/-- MFIABM (46_trap_system_cop0.md R328): IABM to `rt`, sign-extended. -/
def execMfiabm (rt : Reg) (s : State) : Result := withCop0 s (resultW s rt s.dbg.iabm)

/-- MFDAB (46_trap_system_cop0.md R329): DAB to `rt`, sign-extended. -/
def execMfdab (rt : Reg) (s : State) : Result := withCop0 s (resultW s rt s.dbg.dab)

/-- MFDABM (46_trap_system_cop0.md R330): DABM to `rt`, sign-extended. -/
def execMfdabm (rt : Reg) (s : State) : Result := withCop0 s (resultW s rt s.dbg.dabm)

/-- MFDVB (46_trap_system_cop0.md R331): DVB to `rt`, sign-extended. -/
def execMfdvb (rt : Reg) (s : State) : Result := withCop0 s (resultW s rt s.dbg.dvb)

/-- MFDVBM (46_trap_system_cop0.md R332): DVBM to `rt`, sign-extended. -/
def execMfdvbm (rt : Reg) (s : State) : Result := withCop0 s (resultW s rt s.dbg.dvbm)

/-- MTBPC (46_trap_system_cop0.md R333): bits 31:0 of `rt` to BPC; a value that would arm a breakpoint is refused. -/
def execMtbpc (rt : Reg) (s : State) : Result :=
  withCop0 s (match writeBpc s (s.readW rt) with
    | .ok t => .next t.advance
    | .error r => .refused r)

/-- MTIAB (46_trap_system_cop0.md R334): bits 31:0 of `rt` to IAB. -/
def execMtiab (rt : Reg) (s : State) : Result :=
  withCop0 s (.next (State.advance { s with dbg := { s.dbg with iab := s.readW rt } }))

/-- MTDAB (46_trap_system_cop0.md R335): bits 31:0 of `rt` to DAB. -/
def execMtdab (rt : Reg) (s : State) : Result :=
  withCop0 s (.next (State.advance { s with dbg := { s.dbg with dab := s.readW rt } }))

/-- MTDABM (46_trap_system_cop0.md R336): bits 31:0 of `rt` to DABM. -/
def execMtdabm (rt : Reg) (s : State) : Result :=
  withCop0 s (.next (State.advance { s with dbg := { s.dbg with dabm := s.readW rt } }))

/-- MTDVB (46_trap_system_cop0.md R337): bits 31:0 of `rt` to DVB. -/
def execMtdvb (rt : Reg) (s : State) : Result :=
  withCop0 s (.next (State.advance { s with dbg := { s.dbg with dvb := s.readW rt } }))

/-- MTDVBM (46_trap_system_cop0.md R338): bits 31:0 of `rt` to DVBM. -/
def execMtdvbm (rt : Reg) (s : State) : Result :=
  withCop0 s (.next (State.advance { s with dbg := { s.dbg with dvbm := s.readW rt } }))

/-- MFPC (46_trap_system_cop0.md R339): PCR0 or PCR1 to `rt`; a draw while CTE = 1. -/
def execMfpc (rt : Reg) (reg : BitVec 5) (s : State) : Result :=
  withCop0 s (
    if 2 ≤ reg.toNat then .refused (.performanceSelector reg)
    else if s.perf.pccr.getLsbD 31 then resultW { s with draws := s.draws + 1 } rt (Config.perf s.draws)
    else resultW s rt (if reg = 0 then s.perf.pcr0 else s.perf.pcr1))

/-- MFPS (46_trap_system_cop0.md R340): PCCR to `rt`. -/
def execMfps (rt : Reg) (reg : BitVec 5) (s : State) : Result :=
  withCop0 s (if reg = 0 then resultW s rt s.perf.pccr else .refused (.performanceSelector reg))

/-- MTPC (46_trap_system_cop0.md R341): bits 31:0 of `rt` to PCR0 or PCR1. -/
def execMtpc (rt : Reg) (reg : BitVec 5) (s : State) : Result :=
  withCop0 s (
    if 2 ≤ reg.toNat then .refused (.performanceSelector reg)
    else if reg = 0 then .next (State.advance { s with perf := { s.perf with pcr0 := s.readW rt } })
    else .next (State.advance { s with perf := { s.perf with pcr1 := s.readW rt } }))

/-- MTPS (46_trap_system_cop0.md R342): bits 31:0 of `rt` to PCCR; a value that sets CTE is refused. -/
def execMtps (rt : Reg) (reg : BitVec 5) (s : State) : Result :=
  withCop0 s (
    if reg = 0 then match writePccr s (s.readW rt) with
      | .ok t => .next t.advance
      | .error r => .refused r
    else .refused (.performanceSelector reg))

end Sys2Proof.Machine
end

