-- ==== Sys2Proof/Syntax.lean ====
section
/-! DEFINITION. The instruction set as syntax: one constructor for each of the 271 rows of the opcode table, with the
operand fields of its encoding pattern in the table's order (30_encoding.md R91, R92). A field has exactly the width
the encoding gives it. -/

namespace Sys2Proof

/-- The instructions of the mnemonic listing (00_scope.md R1, R4). `base`, `rs`, `rt`, `rd` are general register numbers,
`fs`, `ft`, `fd` floating-point register numbers; MFC0 and MTC0 name a coprocessor-0 register in `rd`. -/
inductive Instr where
  -- 40_command_table.md: the command table
  | add (rs rt rd : Reg)
  | mult (rs rt rd : Reg)
  | blez (rs : Reg) (offset : BitVec 16)
  | lb (base rt : Reg) (offset : BitVec 16)
  | addu (rs rt rd : Reg)
  | subu (rs rt rd : Reg)
  | beq (rs rt : Reg) (offset : BitVec 16)
  | bne (rs rt : Reg) (offset : BitVec 16)
  | mfhi (rd : Reg)
  | mflo (rd : Reg)
  | syscall (code : BitVec 20)
  | sw (base rt : Reg) (offset : BitVec 16)
  | jal (index : BitVec 26)
  | lw (base rt : Reg) (offset : BitVec 16)
  | jr (rs : Reg)
  | div (rs rt : Reg)
  | bltzal (rs : Reg) (offset : BitVec 16)
  | bgezal (rs : Reg) (offset : BitVec 16)
  | lui (rt : Reg) (imm : BitVec 16)
  | and (rs rt rd : Reg)
  -- 41_integer_alu.md: integer arithmetic, logic, set, conditional move
  | addi (rs rt : Reg) (imm : BitVec 16)
  | addiu (rs rt : Reg) (imm : BitVec 16)
  | sub (rs rt rd : Reg)
  | andi (rs rt : Reg) (imm : BitVec 16)
  | ori (rs rt : Reg) (imm : BitVec 16)
  | or (rs rt rd : Reg)
  | xor (rs rt rd : Reg)
  | xori (rs rt : Reg) (imm : BitVec 16)
  | nor (rs rt rd : Reg)
  | slt (rs rt rd : Reg)
  | slti (rs rt : Reg) (imm : BitVec 16)
  | sltu (rs rt rd : Reg)
  | sltiu (rs rt : Reg) (imm : BitVec 16)
  | movn (rs rt rd : Reg)
  | movz (rs rt rd : Reg)
  | dadd (rs rt rd : Reg)
  | daddi (rs rt : Reg) (imm : BitVec 16)
  | daddiu (rs rt : Reg) (imm : BitVec 16)
  | daddu (rs rt rd : Reg)
  | dsub (rs rt rd : Reg)
  | dsubu (rs rt rd : Reg)
  -- 42_shifts.md: shifts
  | sll (rt : Reg) (rd : Reg) (sa : BitVec 5)
  | srl (rt : Reg) (rd : Reg) (sa : BitVec 5)
  | sra (rt : Reg) (rd : Reg) (sa : BitVec 5)
  | sllv (rs rt rd : Reg)
  | srlv (rs rt rd : Reg)
  | srav (rs rt rd : Reg)
  | dsll (rt : Reg) (rd : Reg) (sa : BitVec 5)
  | dsrl (rt : Reg) (rd : Reg) (sa : BitVec 5)
  | dsra (rt : Reg) (rd : Reg) (sa : BitVec 5)
  | dsll32 (rt : Reg) (rd : Reg) (sa : BitVec 5)
  | dsrl32 (rt : Reg) (rd : Reg) (sa : BitVec 5)
  | dsra32 (rt : Reg) (rd : Reg) (sa : BitVec 5)
  | dsllv (rs rt rd : Reg)
  | dsrlv (rs rt rd : Reg)
  | dsrav (rs rt rd : Reg)
  -- 43_muldiv_hilo.md: multiply, divide, HI/LO
  | multu (rs rt rd : Reg)
  | divu (rs rt : Reg)
  | mult1 (rs rt rd : Reg)
  | multu1 (rs rt rd : Reg)
  | div1 (rs rt : Reg)
  | divu1 (rs rt : Reg)
  | madd (rs rt rd : Reg)
  | maddu (rs rt rd : Reg)
  | madd1 (rs rt rd : Reg)
  | maddu1 (rs rt rd : Reg)
  | mthi (rs : Reg)
  | mtlo (rs : Reg)
  | mfhi1 (rd : Reg)
  | mflo1 (rd : Reg)
  | mthi1 (rs : Reg)
  | mtlo1 (rs : Reg)
  -- 44_branch_jump.md: branches and jumps
  | beql (rs rt : Reg) (offset : BitVec 16)
  | bnel (rs rt : Reg) (offset : BitVec 16)
  | bgez (rs : Reg) (offset : BitVec 16)
  | bgezl (rs : Reg) (offset : BitVec 16)
  | bgezall (rs : Reg) (offset : BitVec 16)
  | bgtz (rs : Reg) (offset : BitVec 16)
  | bgtzl (rs : Reg) (offset : BitVec 16)
  | blezl (rs : Reg) (offset : BitVec 16)
  | bltz (rs : Reg) (offset : BitVec 16)
  | bltzl (rs : Reg) (offset : BitVec 16)
  | bltzall (rs : Reg) (offset : BitVec 16)
  | j (index : BitVec 26)
  | jalr (rs rd : Reg)
  -- 45_load_store.md: loads, stores, PREF, SYNC
  | lbu (base rt : Reg) (offset : BitVec 16)
  | lh (base rt : Reg) (offset : BitVec 16)
  | lhu (base rt : Reg) (offset : BitVec 16)
  | lwu (base rt : Reg) (offset : BitVec 16)
  | ld (base rt : Reg) (offset : BitVec 16)
  | lq (base rt : Reg) (offset : BitVec 16)
  | lwl (base rt : Reg) (offset : BitVec 16)
  | lwr (base rt : Reg) (offset : BitVec 16)
  | ldl (base rt : Reg) (offset : BitVec 16)
  | ldr (base rt : Reg) (offset : BitVec 16)
  | sb (base rt : Reg) (offset : BitVec 16)
  | sh (base rt : Reg) (offset : BitVec 16)
  | sd (base rt : Reg) (offset : BitVec 16)
  | sq (base rt : Reg) (offset : BitVec 16)
  | swl (base rt : Reg) (offset : BitVec 16)
  | swr (base rt : Reg) (offset : BitVec 16)
  | sdl (base rt : Reg) (offset : BitVec 16)
  | sdr (base rt : Reg) (offset : BitVec 16)
  | pref (base : Reg) (hint : BitVec 5) (offset : BitVec 16)
  | sync (stype : BitVec 5)
  -- 46_trap_system_cop0.md: traps, ERET, EI, DI, coprocessor 0
  | breakI (code : BitVec 20)
  | tge (rs rt : Reg) (code : BitVec 10)
  | tgeu (rs rt : Reg) (code : BitVec 10)
  | tlt (rs rt : Reg) (code : BitVec 10)
  | tltu (rs rt : Reg) (code : BitVec 10)
  | teq (rs rt : Reg) (code : BitVec 10)
  | tne (rs rt : Reg) (code : BitVec 10)
  | tgei (rs : Reg) (imm : BitVec 16)
  | tgeiu (rs : Reg) (imm : BitVec 16)
  | tlti (rs : Reg) (imm : BitVec 16)
  | tltiu (rs : Reg) (imm : BitVec 16)
  | teqi (rs : Reg) (imm : BitVec 16)
  | tnei (rs : Reg) (imm : BitVec 16)
  | eret
  | ei
  | di
  | mfc0 (rt rd : Reg)
  | mtc0 (rt rd : Reg)
  | bc0f (offset : BitVec 16)
  | bc0fl (offset : BitVec 16)
  | bc0t (offset : BitVec 16)
  | bc0tl (offset : BitVec 16)
  | mfbpc (rt : Reg)
  | mfiab (rt : Reg)
  | mfiabm (rt : Reg)
  | mfdab (rt : Reg)
  | mfdabm (rt : Reg)
  | mfdvb (rt : Reg)
  | mfdvbm (rt : Reg)
  | mtbpc (rt : Reg)
  | mtiab (rt : Reg)
  | mtdab (rt : Reg)
  | mtdabm (rt : Reg)
  | mtdvb (rt : Reg)
  | mtdvbm (rt : Reg)
  | mfpc (rt : Reg) (reg : BitVec 5)
  | mfps (rt : Reg) (reg : BitVec 5)
  | mtpc (rt : Reg) (reg : BitVec 5)
  | mtps (rt : Reg) (reg : BitVec 5)
  -- 47_fpu.md: floating point
  | mfc1 (rt fs : Reg)
  | mtc1 (rt fs : Reg)
  | cfc1 (rt fs : Reg)
  | ctc1 (rt fs : Reg)
  | lwc1 (base ft : Reg) (offset : BitVec 16)
  | swc1 (base ft : Reg) (offset : BitVec 16)
  | movS (fs fd : Reg)
  | absS (fs fd : Reg)
  | negS (fs fd : Reg)
  | cFS (ft fs : Reg)
  | cEqS (ft fs : Reg)
  | cLtS (ft fs : Reg)
  | cLeS (ft fs : Reg)
  | bc1f (offset : BitVec 16)
  | bc1fl (offset : BitVec 16)
  | bc1t (offset : BitVec 16)
  | bc1tl (offset : BitVec 16)
  | addS (ft fs fd : Reg)
  | subS (ft fs fd : Reg)
  | mulS (ft fs fd : Reg)
  | divS (ft fs fd : Reg)
  | sqrtS (ft fd : Reg)
  | rsqrtS (ft fs fd : Reg)
  | maxS (ft fs fd : Reg)
  | minS (ft fs fd : Reg)
  | mulaS (ft fs : Reg)
  | subaS (ft fs : Reg)
  | maddS (ft fs fd : Reg)
  | msubS (ft fs fd : Reg)
  | maddaS (ft fs : Reg)
  | msubaS (ft fs : Reg)
  | cvtSW (fs fd : Reg)
  | cvtWS (fs fd : Reg)
  -- 48_parallel_arith.md: parallel arithmetic
  | paddb (rs rt rd : Reg)
  | paddh (rs rt rd : Reg)
  | paddw (rs rt rd : Reg)
  | paddsb (rs rt rd : Reg)
  | paddsh (rs rt rd : Reg)
  | paddsw (rs rt rd : Reg)
  | paddub (rs rt rd : Reg)
  | padduh (rs rt rd : Reg)
  | padduw (rs rt rd : Reg)
  | psubb (rs rt rd : Reg)
  | psubh (rs rt rd : Reg)
  | psubw (rs rt rd : Reg)
  | psubsb (rs rt rd : Reg)
  | psubsh (rs rt rd : Reg)
  | psubsw (rs rt rd : Reg)
  | psubub (rs rt rd : Reg)
  | psubuh (rs rt rd : Reg)
  | psubuw (rs rt rd : Reg)
  | padsbh (rs rt rd : Reg)
  | pabsh (rt rd : Reg)
  | pabsw (rt rd : Reg)
  | pmaxh (rs rt rd : Reg)
  | pmaxw (rs rt rd : Reg)
  | pminh (rs rt rd : Reg)
  | pminw (rs rt rd : Reg)
  | pceqb (rs rt rd : Reg)
  | pceqh (rs rt rd : Reg)
  | pceqw (rs rt rd : Reg)
  | pcgtb (rs rt rd : Reg)
  | pcgth (rs rt rd : Reg)
  | pcgtw (rs rt rd : Reg)
  | pand (rs rt rd : Reg)
  | pxor (rs rt rd : Reg)
  | pnor (rs rt rd : Reg)
  | psllh (rt : Reg) (rd : Reg) (sa : BitVec 5)
  | psrlh (rt : Reg) (rd : Reg) (sa : BitVec 5)
  | psrah (rt : Reg) (rd : Reg) (sa : BitVec 5)
  | psllw (rt : Reg) (rd : Reg) (sa : BitVec 5)
  | psrlw (rt : Reg) (rd : Reg) (sa : BitVec 5)
  | psraw (rt : Reg) (rd : Reg) (sa : BitVec 5)
  | psllvw (rs rt rd : Reg)
  | psrlvw (rs rt rd : Reg)
  | psravw (rs rt rd : Reg)
  -- 49_parallel_muldiv_pack.md: parallel multiply, divide, pack, SA
  | pmultw (rs rt rd : Reg)
  | pmultuw (rs rt rd : Reg)
  | pmaddw (rs rt rd : Reg)
  | pmadduw (rs rt rd : Reg)
  | pmsubw (rs rt rd : Reg)
  | pmulth (rs rt rd : Reg)
  | pmaddh (rs rt rd : Reg)
  | pmsubh (rs rt rd : Reg)
  | phmadh (rs rt rd : Reg)
  | phmsbh (rs rt rd : Reg)
  | pdivw (rs rt : Reg)
  | pdivuw (rs rt : Reg)
  | pdivbw (rs rt : Reg)
  | pmfhi (rd : Reg)
  | pmflo (rd : Reg)
  | pmthi (rs : Reg)
  | pmtlo (rs : Reg)
  | pmfhlLh (rd : Reg)
  | pmfhlLw (rd : Reg)
  | pmfhlSh (rd : Reg)
  | pmfhlSlw (rd : Reg)
  | pmfhlUw (rd : Reg)
  | pmthlLw (rs : Reg)
  | pextlb (rs rt rd : Reg)
  | pextlh (rs rt rd : Reg)
  | pextlw (rs rt rd : Reg)
  | pextub (rs rt rd : Reg)
  | pextuh (rs rt rd : Reg)
  | pextuw (rs rt rd : Reg)
  | pext5 (rt rd : Reg)
  | ppac5 (rt rd : Reg)
  | ppacb (rs rt rd : Reg)
  | ppach (rs rt rd : Reg)
  | ppacw (rs rt rd : Reg)
  | pcpyh (rt rd : Reg)
  | pcpyld (rs rt rd : Reg)
  | pcpyud (rs rt rd : Reg)
  | pexch (rt rd : Reg)
  | pexcw (rt rd : Reg)
  | pexeh (rt rd : Reg)
  | pexew (rt rd : Reg)
  | pinth (rs rt rd : Reg)
  | pinteh (rs rt rd : Reg)
  | prevh (rt rd : Reg)
  | prot3w (rt rd : Reg)
  | plzcw (rs rd : Reg)
  | mfsa (rd : Reg)
  | mtsa (rs : Reg)
  | mtsab (rs : Reg) (imm : BitVec 16)
  | mtsah (rs : Reg) (imm : BitVec 16)
  | qfsrv (rs rt rd : Reg)
  deriving DecidableEq, Repr

end Sys2Proof
end

