-- ==== Sys2Proof/Machine/Dispatch.lean ====
section
/-! DEFINITION. The meaning of every instruction: one arm per constructor of `Instr`. -/

namespace Sys2Proof.Machine

def exec (i : Instr) (s : State) : Host.Outcome State Fault Refusal :=
  match i with
  | .add rs rt rd => Sys2Proof.Machine.execAdd rs rt rd s
  | .mult rs rt rd => Sys2Proof.Machine.execMult rs rt rd s
  | .blez rs offset => Sys2Proof.Machine.execBlez rs offset s
  | .lb base rt offset => Sys2Proof.Machine.execLb base rt offset s
  | .addu rs rt rd => Sys2Proof.Machine.execAddu rs rt rd s
  | .subu rs rt rd => Sys2Proof.Machine.execSubu rs rt rd s
  | .beq rs rt offset => Sys2Proof.Machine.execBeq rs rt offset s
  | .bne rs rt offset => Sys2Proof.Machine.execBne rs rt offset s
  | .mfhi rd => Sys2Proof.Machine.execMfhi rd s
  | .mflo rd => Sys2Proof.Machine.execMflo rd s
  | .syscall code => Sys2Proof.Machine.execSyscall code s
  | .sw base rt offset => Sys2Proof.Machine.execSw base rt offset s
  | .jal index => Sys2Proof.Machine.execJal index s
  | .lw base rt offset => Sys2Proof.Machine.execLw base rt offset s
  | .jr rs => Sys2Proof.Machine.execJr rs s
  | .div rs rt => Sys2Proof.Machine.execDiv rs rt s
  | .bltzal rs offset => Sys2Proof.Machine.execBltzal rs offset s
  | .bgezal rs offset => Sys2Proof.Machine.execBgezal rs offset s
  | .lui rt imm => Sys2Proof.Machine.execLui rt imm s
  | .and rs rt rd => Sys2Proof.Machine.execAnd rs rt rd s
  | .addi rs rt imm => Sys2Proof.Machine.execAddi rs rt imm s
  | .addiu rs rt imm => Sys2Proof.Machine.execAddiu rs rt imm s
  | .sub rs rt rd => Sys2Proof.Machine.execSub rs rt rd s
  | .andi rs rt imm => Sys2Proof.Machine.execAndi rs rt imm s
  | .ori rs rt imm => Sys2Proof.Machine.execOri rs rt imm s
  | .or rs rt rd => Sys2Proof.Machine.execOr rs rt rd s
  | .xor rs rt rd => Sys2Proof.Machine.execXor rs rt rd s
  | .xori rs rt imm => Sys2Proof.Machine.execXori rs rt imm s
  | .nor rs rt rd => Sys2Proof.Machine.execNor rs rt rd s
  | .slt rs rt rd => Sys2Proof.Machine.execSlt rs rt rd s
  | .slti rs rt imm => Sys2Proof.Machine.execSlti rs rt imm s
  | .sltu rs rt rd => Sys2Proof.Machine.execSltu rs rt rd s
  | .sltiu rs rt imm => Sys2Proof.Machine.execSltiu rs rt imm s
  | .movn rs rt rd => Sys2Proof.Machine.execMovn rs rt rd s
  | .movz rs rt rd => Sys2Proof.Machine.execMovz rs rt rd s
  | .dadd rs rt rd => Sys2Proof.Machine.execDadd rs rt rd s
  | .daddi rs rt imm => Sys2Proof.Machine.execDaddi rs rt imm s
  | .daddiu rs rt imm => Sys2Proof.Machine.execDaddiu rs rt imm s
  | .daddu rs rt rd => Sys2Proof.Machine.execDaddu rs rt rd s
  | .dsub rs rt rd => Sys2Proof.Machine.execDsub rs rt rd s
  | .dsubu rs rt rd => Sys2Proof.Machine.execDsubu rs rt rd s
  | .sll rt rd sa => Sys2Proof.Machine.execSll rt rd sa s
  | .srl rt rd sa => Sys2Proof.Machine.execSrl rt rd sa s
  | .sra rt rd sa => Sys2Proof.Machine.execSra rt rd sa s
  | .sllv rs rt rd => Sys2Proof.Machine.execSllv rs rt rd s
  | .srlv rs rt rd => Sys2Proof.Machine.execSrlv rs rt rd s
  | .srav rs rt rd => Sys2Proof.Machine.execSrav rs rt rd s
  | .dsll rt rd sa => Sys2Proof.Machine.execDsll rt rd sa s
  | .dsrl rt rd sa => Sys2Proof.Machine.execDsrl rt rd sa s
  | .dsra rt rd sa => Sys2Proof.Machine.execDsra rt rd sa s
  | .dsll32 rt rd sa => Sys2Proof.Machine.execDsll32 rt rd sa s
  | .dsrl32 rt rd sa => Sys2Proof.Machine.execDsrl32 rt rd sa s
  | .dsra32 rt rd sa => Sys2Proof.Machine.execDsra32 rt rd sa s
  | .dsllv rs rt rd => Sys2Proof.Machine.execDsllv rs rt rd s
  | .dsrlv rs rt rd => Sys2Proof.Machine.execDsrlv rs rt rd s
  | .dsrav rs rt rd => Sys2Proof.Machine.execDsrav rs rt rd s
  | .multu rs rt rd => Sys2Proof.Machine.execMultu rs rt rd s
  | .divu rs rt => Sys2Proof.Machine.execDivu rs rt s
  | .mult1 rs rt rd => Sys2Proof.Machine.execMult1 rs rt rd s
  | .multu1 rs rt rd => Sys2Proof.Machine.execMultu1 rs rt rd s
  | .div1 rs rt => Sys2Proof.Machine.execDiv1 rs rt s
  | .divu1 rs rt => Sys2Proof.Machine.execDivu1 rs rt s
  | .madd rs rt rd => Sys2Proof.Machine.execMadd rs rt rd s
  | .maddu rs rt rd => Sys2Proof.Machine.execMaddu rs rt rd s
  | .madd1 rs rt rd => Sys2Proof.Machine.execMadd1 rs rt rd s
  | .maddu1 rs rt rd => Sys2Proof.Machine.execMaddu1 rs rt rd s
  | .mthi rs => Sys2Proof.Machine.execMthi rs s
  | .mtlo rs => Sys2Proof.Machine.execMtlo rs s
  | .mfhi1 rd => Sys2Proof.Machine.execMfhi1 rd s
  | .mflo1 rd => Sys2Proof.Machine.execMflo1 rd s
  | .mthi1 rs => Sys2Proof.Machine.execMthi1 rs s
  | .mtlo1 rs => Sys2Proof.Machine.execMtlo1 rs s
  | .beql rs rt offset => Sys2Proof.Machine.execBeql rs rt offset s
  | .bnel rs rt offset => Sys2Proof.Machine.execBnel rs rt offset s
  | .bgez rs offset => Sys2Proof.Machine.execBgez rs offset s
  | .bgezl rs offset => Sys2Proof.Machine.execBgezl rs offset s
  | .bgezall rs offset => Sys2Proof.Machine.execBgezall rs offset s
  | .bgtz rs offset => Sys2Proof.Machine.execBgtz rs offset s
  | .bgtzl rs offset => Sys2Proof.Machine.execBgtzl rs offset s
  | .blezl rs offset => Sys2Proof.Machine.execBlezl rs offset s
  | .bltz rs offset => Sys2Proof.Machine.execBltz rs offset s
  | .bltzl rs offset => Sys2Proof.Machine.execBltzl rs offset s
  | .bltzall rs offset => Sys2Proof.Machine.execBltzall rs offset s
  | .j index => Sys2Proof.Machine.execJ index s
  | .jalr rs rd => Sys2Proof.Machine.execJalr rs rd s
  | .lbu base rt offset => Sys2Proof.Machine.execLbu base rt offset s
  | .lh base rt offset => Sys2Proof.Machine.execLh base rt offset s
  | .lhu base rt offset => Sys2Proof.Machine.execLhu base rt offset s
  | .lwu base rt offset => Sys2Proof.Machine.execLwu base rt offset s
  | .ld base rt offset => Sys2Proof.Machine.execLd base rt offset s
  | .lq base rt offset => Sys2Proof.Machine.execLq base rt offset s
  | .lwl base rt offset => Sys2Proof.Machine.execLwl base rt offset s
  | .lwr base rt offset => Sys2Proof.Machine.execLwr base rt offset s
  | .ldl base rt offset => Sys2Proof.Machine.execLdl base rt offset s
  | .ldr base rt offset => Sys2Proof.Machine.execLdr base rt offset s
  | .sb base rt offset => Sys2Proof.Machine.execSb base rt offset s
  | .sh base rt offset => Sys2Proof.Machine.execSh base rt offset s
  | .sd base rt offset => Sys2Proof.Machine.execSd base rt offset s
  | .sq base rt offset => Sys2Proof.Machine.execSq base rt offset s
  | .swl base rt offset => Sys2Proof.Machine.execSwl base rt offset s
  | .swr base rt offset => Sys2Proof.Machine.execSwr base rt offset s
  | .sdl base rt offset => Sys2Proof.Machine.execSdl base rt offset s
  | .sdr base rt offset => Sys2Proof.Machine.execSdr base rt offset s
  | .pref base hint offset => Sys2Proof.Machine.execPref base hint offset s
  | .sync stype => Sys2Proof.Machine.execSync stype s
  | .breakI code => Sys2Proof.Machine.execBreak code s
  | .tge rs rt code => Sys2Proof.Machine.execTge rs rt code s
  | .tgeu rs rt code => Sys2Proof.Machine.execTgeu rs rt code s
  | .tlt rs rt code => Sys2Proof.Machine.execTlt rs rt code s
  | .tltu rs rt code => Sys2Proof.Machine.execTltu rs rt code s
  | .teq rs rt code => Sys2Proof.Machine.execTeq rs rt code s
  | .tne rs rt code => Sys2Proof.Machine.execTne rs rt code s
  | .tgei rs imm => Sys2Proof.Machine.execTgei rs imm s
  | .tgeiu rs imm => Sys2Proof.Machine.execTgeiu rs imm s
  | .tlti rs imm => Sys2Proof.Machine.execTlti rs imm s
  | .tltiu rs imm => Sys2Proof.Machine.execTltiu rs imm s
  | .teqi rs imm => Sys2Proof.Machine.execTeqi rs imm s
  | .tnei rs imm => Sys2Proof.Machine.execTnei rs imm s
  | .eret => Sys2Proof.Machine.execEret s
  | .ei => Sys2Proof.Machine.execEi s
  | .di => Sys2Proof.Machine.execDi s
  | .mfc0 rt rd => Sys2Proof.Machine.execMfc0 rt rd s
  | .mtc0 rt rd => Sys2Proof.Machine.execMtc0 rt rd s
  | .bc0f offset => Sys2Proof.Machine.execBc0f offset s
  | .bc0fl offset => Sys2Proof.Machine.execBc0fl offset s
  | .bc0t offset => Sys2Proof.Machine.execBc0t offset s
  | .bc0tl offset => Sys2Proof.Machine.execBc0tl offset s
  | .mfbpc rt => Sys2Proof.Machine.execMfbpc rt s
  | .mfiab rt => Sys2Proof.Machine.execMfiab rt s
  | .mfiabm rt => Sys2Proof.Machine.execMfiabm rt s
  | .mfdab rt => Sys2Proof.Machine.execMfdab rt s
  | .mfdabm rt => Sys2Proof.Machine.execMfdabm rt s
  | .mfdvb rt => Sys2Proof.Machine.execMfdvb rt s
  | .mfdvbm rt => Sys2Proof.Machine.execMfdvbm rt s
  | .mtbpc rt => Sys2Proof.Machine.execMtbpc rt s
  | .mtiab rt => Sys2Proof.Machine.execMtiab rt s
  | .mtdab rt => Sys2Proof.Machine.execMtdab rt s
  | .mtdabm rt => Sys2Proof.Machine.execMtdabm rt s
  | .mtdvb rt => Sys2Proof.Machine.execMtdvb rt s
  | .mtdvbm rt => Sys2Proof.Machine.execMtdvbm rt s
  | .mfpc rt reg => Sys2Proof.Machine.execMfpc rt reg s
  | .mfps rt reg => Sys2Proof.Machine.execMfps rt reg s
  | .mtpc rt reg => Sys2Proof.Machine.execMtpc rt reg s
  | .mtps rt reg => Sys2Proof.Machine.execMtps rt reg s
  | .mfc1 rt fs => Sys2Proof.Machine.execMfc1 rt fs s
  | .mtc1 rt fs => Sys2Proof.Machine.execMtc1 rt fs s
  | .cfc1 rt fs => Sys2Proof.Machine.execCfc1 rt fs s
  | .ctc1 rt fs => Sys2Proof.Machine.execCtc1 rt fs s
  | .lwc1 base ft offset => Sys2Proof.Machine.execLwc1 base ft offset s
  | .swc1 base ft offset => Sys2Proof.Machine.execSwc1 base ft offset s
  | .movS fs fd => Sys2Proof.Machine.execMovS fs fd s
  | .absS fs fd => Sys2Proof.Machine.execAbsS fs fd s
  | .negS fs fd => Sys2Proof.Machine.execNegS fs fd s
  | .cFS ft fs => Sys2Proof.Machine.execCFS ft fs s
  | .cEqS ft fs => Sys2Proof.Machine.execCEqS ft fs s
  | .cLtS ft fs => Sys2Proof.Machine.execCLtS ft fs s
  | .cLeS ft fs => Sys2Proof.Machine.execCLeS ft fs s
  | .bc1f offset => Sys2Proof.Machine.execBc1f offset s
  | .bc1fl offset => Sys2Proof.Machine.execBc1fl offset s
  | .bc1t offset => Sys2Proof.Machine.execBc1t offset s
  | .bc1tl offset => Sys2Proof.Machine.execBc1tl offset s
  | .addS ft fs fd => Sys2Proof.Machine.execAddS ft fs fd s
  | .subS ft fs fd => Sys2Proof.Machine.execSubS ft fs fd s
  | .mulS ft fs fd => Sys2Proof.Machine.execMulS ft fs fd s
  | .divS ft fs fd => Sys2Proof.Machine.execDivS ft fs fd s
  | .sqrtS ft fd => Sys2Proof.Machine.execSqrtS ft fd s
  | .rsqrtS ft fs fd => Sys2Proof.Machine.execRsqrtS ft fs fd s
  | .maxS ft fs fd => Sys2Proof.Machine.execMaxS ft fs fd s
  | .minS ft fs fd => Sys2Proof.Machine.execMinS ft fs fd s
  | .mulaS ft fs => Sys2Proof.Machine.execMulaS ft fs s
  | .subaS ft fs => Sys2Proof.Machine.execSubaS ft fs s
  | .maddS ft fs fd => Sys2Proof.Machine.execMaddS ft fs fd s
  | .msubS ft fs fd => Sys2Proof.Machine.execMsubS ft fs fd s
  | .maddaS ft fs => Sys2Proof.Machine.execMaddaS ft fs s
  | .msubaS ft fs => Sys2Proof.Machine.execMsubaS ft fs s
  | .cvtSW fs fd => Sys2Proof.Machine.execCvtSW fs fd s
  | .cvtWS fs fd => Sys2Proof.Machine.execCvtWS fs fd s
  | .paddb rs rt rd => Sys2Proof.Machine.execPaddb rs rt rd s
  | .paddh rs rt rd => Sys2Proof.Machine.execPaddh rs rt rd s
  | .paddw rs rt rd => Sys2Proof.Machine.execPaddw rs rt rd s
  | .paddsb rs rt rd => Sys2Proof.Machine.execPaddsb rs rt rd s
  | .paddsh rs rt rd => Sys2Proof.Machine.execPaddsh rs rt rd s
  | .paddsw rs rt rd => Sys2Proof.Machine.execPaddsw rs rt rd s
  | .paddub rs rt rd => Sys2Proof.Machine.execPaddub rs rt rd s
  | .padduh rs rt rd => Sys2Proof.Machine.execPadduh rs rt rd s
  | .padduw rs rt rd => Sys2Proof.Machine.execPadduw rs rt rd s
  | .psubb rs rt rd => Sys2Proof.Machine.execPsubb rs rt rd s
  | .psubh rs rt rd => Sys2Proof.Machine.execPsubh rs rt rd s
  | .psubw rs rt rd => Sys2Proof.Machine.execPsubw rs rt rd s
  | .psubsb rs rt rd => Sys2Proof.Machine.execPsubsb rs rt rd s
  | .psubsh rs rt rd => Sys2Proof.Machine.execPsubsh rs rt rd s
  | .psubsw rs rt rd => Sys2Proof.Machine.execPsubsw rs rt rd s
  | .psubub rs rt rd => Sys2Proof.Machine.execPsubub rs rt rd s
  | .psubuh rs rt rd => Sys2Proof.Machine.execPsubuh rs rt rd s
  | .psubuw rs rt rd => Sys2Proof.Machine.execPsubuw rs rt rd s
  | .padsbh rs rt rd => Sys2Proof.Machine.execPadsbh rs rt rd s
  | .pabsh rt rd => Sys2Proof.Machine.execPabsh rt rd s
  | .pabsw rt rd => Sys2Proof.Machine.execPabsw rt rd s
  | .pmaxh rs rt rd => Sys2Proof.Machine.execPmaxh rs rt rd s
  | .pmaxw rs rt rd => Sys2Proof.Machine.execPmaxw rs rt rd s
  | .pminh rs rt rd => Sys2Proof.Machine.execPminh rs rt rd s
  | .pminw rs rt rd => Sys2Proof.Machine.execPminw rs rt rd s
  | .pceqb rs rt rd => Sys2Proof.Machine.execPceqb rs rt rd s
  | .pceqh rs rt rd => Sys2Proof.Machine.execPceqh rs rt rd s
  | .pceqw rs rt rd => Sys2Proof.Machine.execPceqw rs rt rd s
  | .pcgtb rs rt rd => Sys2Proof.Machine.execPcgtb rs rt rd s
  | .pcgth rs rt rd => Sys2Proof.Machine.execPcgth rs rt rd s
  | .pcgtw rs rt rd => Sys2Proof.Machine.execPcgtw rs rt rd s
  | .pand rs rt rd => Sys2Proof.Machine.execPand rs rt rd s
  | .pxor rs rt rd => Sys2Proof.Machine.execPxor rs rt rd s
  | .pnor rs rt rd => Sys2Proof.Machine.execPnor rs rt rd s
  | .psllh rt rd sa => Sys2Proof.Machine.execPsllh rt rd sa s
  | .psrlh rt rd sa => Sys2Proof.Machine.execPsrlh rt rd sa s
  | .psrah rt rd sa => Sys2Proof.Machine.execPsrah rt rd sa s
  | .psllw rt rd sa => Sys2Proof.Machine.execPsllw rt rd sa s
  | .psrlw rt rd sa => Sys2Proof.Machine.execPsrlw rt rd sa s
  | .psraw rt rd sa => Sys2Proof.Machine.execPsraw rt rd sa s
  | .psllvw rs rt rd => Sys2Proof.Machine.execPsllvw rs rt rd s
  | .psrlvw rs rt rd => Sys2Proof.Machine.execPsrlvw rs rt rd s
  | .psravw rs rt rd => Sys2Proof.Machine.execPsravw rs rt rd s
  | .pmultw rs rt rd => Sys2Proof.Machine.execPmultw rs rt rd s
  | .pmultuw rs rt rd => Sys2Proof.Machine.execPmultuw rs rt rd s
  | .pmaddw rs rt rd => Sys2Proof.Machine.execPmaddw rs rt rd s
  | .pmadduw rs rt rd => Sys2Proof.Machine.execPmadduw rs rt rd s
  | .pmsubw rs rt rd => Sys2Proof.Machine.execPmsubw rs rt rd s
  | .pmulth rs rt rd => Sys2Proof.Machine.execPmulth rs rt rd s
  | .pmaddh rs rt rd => Sys2Proof.Machine.execPmaddh rs rt rd s
  | .pmsubh rs rt rd => Sys2Proof.Machine.execPmsubh rs rt rd s
  | .phmadh rs rt rd => Sys2Proof.Machine.execPhmadh rs rt rd s
  | .phmsbh rs rt rd => Sys2Proof.Machine.execPhmsbh rs rt rd s
  | .pdivw rs rt => Sys2Proof.Machine.execPdivw rs rt s
  | .pdivuw rs rt => Sys2Proof.Machine.execPdivuw rs rt s
  | .pdivbw rs rt => Sys2Proof.Machine.execPdivbw rs rt s
  | .pmfhi rd => Sys2Proof.Machine.execPmfhi rd s
  | .pmflo rd => Sys2Proof.Machine.execPmflo rd s
  | .pmthi rs => Sys2Proof.Machine.execPmthi rs s
  | .pmtlo rs => Sys2Proof.Machine.execPmtlo rs s
  | .pmfhlLh rd => Sys2Proof.Machine.execPmfhlLh rd s
  | .pmfhlLw rd => Sys2Proof.Machine.execPmfhlLw rd s
  | .pmfhlSh rd => Sys2Proof.Machine.execPmfhlSh rd s
  | .pmfhlSlw rd => Sys2Proof.Machine.execPmfhlSlw rd s
  | .pmfhlUw rd => Sys2Proof.Machine.execPmfhlUw rd s
  | .pmthlLw rs => Sys2Proof.Machine.execPmthlLw rs s
  | .pextlb rs rt rd => Sys2Proof.Machine.execPextlb rs rt rd s
  | .pextlh rs rt rd => Sys2Proof.Machine.execPextlh rs rt rd s
  | .pextlw rs rt rd => Sys2Proof.Machine.execPextlw rs rt rd s
  | .pextub rs rt rd => Sys2Proof.Machine.execPextub rs rt rd s
  | .pextuh rs rt rd => Sys2Proof.Machine.execPextuh rs rt rd s
  | .pextuw rs rt rd => Sys2Proof.Machine.execPextuw rs rt rd s
  | .pext5 rt rd => Sys2Proof.Machine.execPext5 rt rd s
  | .ppac5 rt rd => Sys2Proof.Machine.execPpac5 rt rd s
  | .ppacb rs rt rd => Sys2Proof.Machine.execPpacb rs rt rd s
  | .ppach rs rt rd => Sys2Proof.Machine.execPpach rs rt rd s
  | .ppacw rs rt rd => Sys2Proof.Machine.execPpacw rs rt rd s
  | .pcpyh rt rd => Sys2Proof.Machine.execPcpyh rt rd s
  | .pcpyld rs rt rd => Sys2Proof.Machine.execPcpyld rs rt rd s
  | .pcpyud rs rt rd => Sys2Proof.Machine.execPcpyud rs rt rd s
  | .pexch rt rd => Sys2Proof.Machine.execPexch rt rd s
  | .pexcw rt rd => Sys2Proof.Machine.execPexcw rt rd s
  | .pexeh rt rd => Sys2Proof.Machine.execPexeh rt rd s
  | .pexew rt rd => Sys2Proof.Machine.execPexew rt rd s
  | .pinth rs rt rd => Sys2Proof.Machine.execPinth rs rt rd s
  | .pinteh rs rt rd => Sys2Proof.Machine.execPinteh rs rt rd s
  | .prevh rt rd => Sys2Proof.Machine.execPrevh rt rd s
  | .prot3w rt rd => Sys2Proof.Machine.execProt3w rt rd s
  | .plzcw rs rd => Sys2Proof.Machine.execPlzcw rs rd s
  | .mfsa rd => Sys2Proof.Machine.execMfsa rd s
  | .mtsa rs => Sys2Proof.Machine.execMtsa rs s
  | .mtsab rs imm => Sys2Proof.Machine.execMtsab rs imm s
  | .mtsah rs imm => Sys2Proof.Machine.execMtsah rs imm s
  | .qfsrv rs rt rd => Sys2Proof.Machine.execQfsrv rs rt rd s

end Sys2Proof.Machine
end

