-- ==== Sys2Proof/Machine/Events.lean ====
section
/-! DEFINITION. What happens before an instruction: the inputs of the core, reset, the level-2 events and the interrupt, in the
order of 60_exceptions.md R551. -/

namespace Sys2Proof.Machine

/-- Nothing happens and both lines are low: the inputs after the last entry of `env` but for the lines, which keep their level
(log entry 6). -/
def quietTick (s : State) : EnvTick :=
  { reset := false, nmi := false, perfOverflow := false, debugHit := 0, int0 := s.int0, int1 := s.int1, timerMatch := false }

/-- What the inputs do at this step. -/
def State.tick (s : State) : EnvTick :=
  match s.env with
  | [] => quietTick s
  | t :: _ => t

/-- The breakpoint matches that BPC enables: DWE (bit 29) for bit 2, DRE (bit 30) for bit 1, IAE (bit 31) for bit 0
(10_state.md R48; log entry 24). -/
def enabledHits (bpc : Word) (hit : BitVec 3) : BitVec 3 :=
  hit &&& (BitVec.ofBool (bpc.getLsbD 29) ++ BitVec.ofBool (bpc.getLsbD 30) ++ BitVec.ofBool (bpc.getLsbD 31))

/-- Whether enabled matches raise `Debug`: BED (bit 15) suppresses it, ITE (bit 17) and DTE (bit 16) give a trigger instead
(10_state.md R48, 60_exceptions.md R577). -/
def debugRaises (bpc : Word) (hit : BitVec 3) : Bool :=
  !bpc.getLsbD 15 && ((hit.getLsbD 0 && !bpc.getLsbD 17) || ((hit.getLsbD 1 || hit.getLsbD 2) && !bpc.getLsbD 16))

/-- The state after the inputs are sampled: the lines (60_exceptions.md R546), IP[7] (bit 15 of Cause) when the timer matches
(R565), the status bits of BPC. -/
def State.sample (s : State) : State :=
  { s with
    env := s.env.tail
    int0 := s.tick.int0
    int1 := s.tick.int1
    cop0 := { s.cop0 with cause := if s.tick.timerMatch then setBit s.cop0.cause 15 true else s.cop0.cause }
    dbg := { s.dbg with bpc := s.dbg.bpc ||| (enabledHits s.dbg.bpc s.tick.debugHit).setWidth 32 } }

/-- The reset event (70_reset_and_hazards.md R580). Registers and fields the rule calls unspecified keep their value: DESIGN
CHOICE, log entry 25. -/
def resetEvent (s : State) : State :=
  { s with
    cop0 :=
      { s.cop0 with
        errorEpc := s.pc
        cause := putField (setBit s.cop0.cause 30 s.bd) 16 (0 : BitVec 3)
        status := setBit (setBit (setBit s.cop0.status 2 true) 22 true) 12 false
        config := s.cop0.config &&& ~~~(0x00073000 : Word) }
    dbg := { s.dbg with bpc := s.dbg.bpc &&& ~~~(0xE0000000 : Word) }
    perf := { s.perf with pccr := setBit s.perf.pccr 31 false }
    pc := 0xBFC00000
    npc := 0xBFC00004
    bd := false }

/-- An interrupt is pending and enabled (60_exceptions.md R547): IE is bit 0 of Status, EIE bit 16, EXL bit 1, ERL bit 2,
IM[2], IM[3], IM[7] bits 10, 11, 15. -/
def State.interruptPending (s : State) : Bool :=
  s.statusBit 0 && s.statusBit 16 && !s.statusBit 1 && !s.statusBit 2 &&
    ((s.int0 && s.statusBit 10) || (s.int1 && s.statusBit 11) || (s.cop0.cause.getLsbD 15 && s.statusBit 15))

/-- The state after the event of a step, if there is one: reset, NMI, performance counter (while CTE, bit 31 of PCCR, is 1 and
ERL is 0), debug, interrupt (60_exceptions.md R551). `t` is what the inputs do, `s` the state after they are sampled. -/
def eventTaken (t : EnvTick) (s : State) : Option State :=
  if t.reset then some (resetEvent s)
  else if t.nmi then some (takeEvent2 .nmi s)
  else if t.perfOverflow && s.perf.pccr.getLsbD 31 && !s.statusBit 2 then some (takeEvent2 .performanceCounter s)
  else if debugRaises s.dbg.bpc (enabledHits s.dbg.bpc t.debugHit) then some (takeEvent2 .debug s)
  else if s.interruptPending then some (takeException .interrupt s)
  else none

end Sys2Proof.Machine
end

