-- ==== Sys2Proof/Decode.lean ====
section
/-! DEFINITION. The decoder (30_encoding.md R90 to R112) and, after it, the encoder, both written from the encoding
patterns of the opcode table. Decoding is total: a word, or a list of bytes too short to hold one, that is no listed
instruction is rejected by name.

Some of these functions are marked noncomputable because Lean's code generator numbers at most 244 constructors that carry
fields; they are ordinary definitions that the kernel evaluates. -/

namespace Sys2Proof

/-! ## The fields of an instruction word (30_encoding.md R91, R92) -/

/-- Bits 31:26, the primary opcode. -/
def opOf (w : Word) : BitVec 6 := w.extractLsb' 26 6

/-- Bits 25:21: `rs`, `base`, or the sub-opcode of COP0 and COP1. -/
def rsOf (w : Word) : BitVec 5 := w.extractLsb' 21 5

/-- Bits 20:16: `rt`, `ft`, `hint`, or the sub-opcode of REGIMM and of the coprocessor branches. -/
def rtOf (w : Word) : BitVec 5 := w.extractLsb' 16 5

/-- Bits 15:11: `rd` or `fs`. -/
def rdOf (w : Word) : BitVec 5 := w.extractLsb' 11 5

/-- Bits 10:6: `sa`, `fd`, `stype`, or the sub-opcode of an MMI class. -/
def saOf (w : Word) : BitVec 5 := w.extractLsb' 6 5

/-- Bits 5:0, the function. -/
def fnOf (w : Word) : BitVec 6 := w.extractLsb' 0 6

/-- Bits 15:0, an immediate or offset. -/
def immOf (w : Word) : BitVec 16 := w.extractLsb' 0 16

/-- Bits 25:0, the jump index. -/
def indexOf (w : Word) : BitVec 26 := w.extractLsb' 0 26

/-- Bits 25:6, the code of SYSCALL and BREAK. -/
def codeOf (w : Word) : BitVec 20 := w.extractLsb' 6 20

/-- Bits 15:6, the code of a register trap. -/
def trapCodeOf (w : Word) : BitVec 10 := w.extractLsb' 6 10

/-- Bits 5:1, the register operand of a performance move (30_encoding.md R99). -/
def perfRegOf (w : Word) : BitVec 5 := w.extractLsb' 1 5

/-! ## The decoder -/

/-- Why a word is no instruction of the listing (30_encoding.md R112). -/
inductive DecodeError where
  /-- A reserved encoding: `ReservedInstruction` when it is executed. -/
  | reserved
  /-- A coprocessor-2 word (opcodes 010010, 110110, 111110). -/
  | coprocessor2
  /-- An instruction of the hardware that the listing lacks (00_scope.md R5), with its name. -/
  | unlisted (name : String)
  /-- Fewer than four bytes. -/
  | truncated
  deriving DecidableEq, Repr

/-- A decoded instruction, or why there is none. -/
abbrev Decoded := Except DecodeError Instr

/-- A field that the pattern shows as 0 is part of the match (30_encoding.md R110). -/
def strict (zero : Prop) [Decidable zero] (i : Instr) : Decoded := if zero then .ok i else .error .reserved

/-- `strict` for an encoding of the hardware that the listing lacks. -/
def strictUnlisted (zero : Prop) [Decidable zero] (name : String) : Decoded :=
  if zero then .error (.unlisted name) else .error .reserved

/-- Opcode 000000 (30_encoding.md R101). -/
noncomputable def decodeSpecial (w : Word) : Decoded :=
  match fnOf w with
  | 0b000000#6 => strict (rsOf w = 0) (.sll (rtOf w) (rdOf w) (saOf w))
  | 0b000010#6 => strict (rsOf w = 0) (.srl (rtOf w) (rdOf w) (saOf w))
  | 0b000011#6 => strict (rsOf w = 0) (.sra (rtOf w) (rdOf w) (saOf w))
  | 0b000100#6 => strict (saOf w = 0) (.sllv (rsOf w) (rtOf w) (rdOf w))
  | 0b000110#6 => strict (saOf w = 0) (.srlv (rsOf w) (rtOf w) (rdOf w))
  | 0b000111#6 => strict (saOf w = 0) (.srav (rsOf w) (rtOf w) (rdOf w))
  | 0b001000#6 => strict (rtOf w = 0 ∧ rdOf w = 0 ∧ saOf w = 0) (.jr (rsOf w))
  | 0b001001#6 => strict (rtOf w = 0 ∧ saOf w = 0) (.jalr (rsOf w) (rdOf w))
  | 0b001010#6 => strict (saOf w = 0) (.movz (rsOf w) (rtOf w) (rdOf w))
  | 0b001011#6 => strict (saOf w = 0) (.movn (rsOf w) (rtOf w) (rdOf w))
  | 0b001100#6 => .ok (.syscall (codeOf w))
  | 0b001101#6 => .ok (.breakI (codeOf w))
  | 0b001111#6 => strict (rsOf w = 0 ∧ rtOf w = 0 ∧ rdOf w = 0) (.sync (saOf w))
  | 0b010000#6 => strict (rsOf w = 0 ∧ rtOf w = 0 ∧ saOf w = 0) (.mfhi (rdOf w))
  | 0b010001#6 => strict (rtOf w = 0 ∧ rdOf w = 0 ∧ saOf w = 0) (.mthi (rsOf w))
  | 0b010010#6 => strict (rsOf w = 0 ∧ rtOf w = 0 ∧ saOf w = 0) (.mflo (rdOf w))
  | 0b010011#6 => strict (rtOf w = 0 ∧ rdOf w = 0 ∧ saOf w = 0) (.mtlo (rsOf w))
  | 0b010100#6 => strict (saOf w = 0) (.dsllv (rsOf w) (rtOf w) (rdOf w))
  | 0b010110#6 => strict (saOf w = 0) (.dsrlv (rsOf w) (rtOf w) (rdOf w))
  | 0b010111#6 => strict (saOf w = 0) (.dsrav (rsOf w) (rtOf w) (rdOf w))
  | 0b011000#6 => strict (saOf w = 0) (.mult (rsOf w) (rtOf w) (rdOf w))
  | 0b011001#6 => strict (saOf w = 0) (.multu (rsOf w) (rtOf w) (rdOf w))
  | 0b011010#6 => strict (rdOf w = 0 ∧ saOf w = 0) (.div (rsOf w) (rtOf w))
  | 0b011011#6 => strict (rdOf w = 0 ∧ saOf w = 0) (.divu (rsOf w) (rtOf w))
  | 0b100000#6 => strict (saOf w = 0) (.add (rsOf w) (rtOf w) (rdOf w))
  | 0b100001#6 => strict (saOf w = 0) (.addu (rsOf w) (rtOf w) (rdOf w))
  | 0b100010#6 => strict (saOf w = 0) (.sub (rsOf w) (rtOf w) (rdOf w))
  | 0b100011#6 => strict (saOf w = 0) (.subu (rsOf w) (rtOf w) (rdOf w))
  | 0b100100#6 => strict (saOf w = 0) (.and (rsOf w) (rtOf w) (rdOf w))
  | 0b100101#6 => strict (saOf w = 0) (.or (rsOf w) (rtOf w) (rdOf w))
  | 0b100110#6 => strict (saOf w = 0) (.xor (rsOf w) (rtOf w) (rdOf w))
  | 0b100111#6 => strict (saOf w = 0) (.nor (rsOf w) (rtOf w) (rdOf w))
  | 0b101000#6 => strict (rsOf w = 0 ∧ rtOf w = 0 ∧ saOf w = 0) (.mfsa (rdOf w))
  | 0b101001#6 => strict (rtOf w = 0 ∧ rdOf w = 0 ∧ saOf w = 0) (.mtsa (rsOf w))
  | 0b101010#6 => strict (saOf w = 0) (.slt (rsOf w) (rtOf w) (rdOf w))
  | 0b101011#6 => strict (saOf w = 0) (.sltu (rsOf w) (rtOf w) (rdOf w))
  | 0b101100#6 => strict (saOf w = 0) (.dadd (rsOf w) (rtOf w) (rdOf w))
  | 0b101101#6 => strict (saOf w = 0) (.daddu (rsOf w) (rtOf w) (rdOf w))
  | 0b101110#6 => strict (saOf w = 0) (.dsub (rsOf w) (rtOf w) (rdOf w))
  | 0b101111#6 => strict (saOf w = 0) (.dsubu (rsOf w) (rtOf w) (rdOf w))
  | 0b110000#6 => .ok (.tge (rsOf w) (rtOf w) (trapCodeOf w))
  | 0b110001#6 => .ok (.tgeu (rsOf w) (rtOf w) (trapCodeOf w))
  | 0b110010#6 => .ok (.tlt (rsOf w) (rtOf w) (trapCodeOf w))
  | 0b110011#6 => .ok (.tltu (rsOf w) (rtOf w) (trapCodeOf w))
  | 0b110100#6 => .ok (.teq (rsOf w) (rtOf w) (trapCodeOf w))
  | 0b110110#6 => .ok (.tne (rsOf w) (rtOf w) (trapCodeOf w))
  | 0b111000#6 => strict (rsOf w = 0) (.dsll (rtOf w) (rdOf w) (saOf w))
  | 0b111010#6 => strict (rsOf w = 0) (.dsrl (rtOf w) (rdOf w) (saOf w))
  | 0b111011#6 => strict (rsOf w = 0) (.dsra (rtOf w) (rdOf w) (saOf w))
  | 0b111100#6 => strict (rsOf w = 0) (.dsll32 (rtOf w) (rdOf w) (saOf w))
  | 0b111110#6 => strict (rsOf w = 0) (.dsrl32 (rtOf w) (rdOf w) (saOf w))
  | 0b111111#6 => strict (rsOf w = 0) (.dsra32 (rtOf w) (rdOf w) (saOf w))
  | _ => .error .reserved

/-- Opcode 000001 (30_encoding.md R102). -/
noncomputable def decodeRegimm (w : Word) : Decoded :=
  match rtOf w with
  | 0b00000#5 => .ok (.bltz (rsOf w) (immOf w))
  | 0b00001#5 => .ok (.bgez (rsOf w) (immOf w))
  | 0b00010#5 => .ok (.bltzl (rsOf w) (immOf w))
  | 0b00011#5 => .ok (.bgezl (rsOf w) (immOf w))
  | 0b01000#5 => .ok (.tgei (rsOf w) (immOf w))
  | 0b01001#5 => .ok (.tgeiu (rsOf w) (immOf w))
  | 0b01010#5 => .ok (.tlti (rsOf w) (immOf w))
  | 0b01011#5 => .ok (.tltiu (rsOf w) (immOf w))
  | 0b01100#5 => .ok (.teqi (rsOf w) (immOf w))
  | 0b01110#5 => .ok (.tnei (rsOf w) (immOf w))
  | 0b10000#5 => .ok (.bltzal (rsOf w) (immOf w))
  | 0b10001#5 => .ok (.bgezal (rsOf w) (immOf w))
  | 0b10010#5 => .ok (.bltzall (rsOf w) (immOf w))
  | 0b10011#5 => .ok (.bgezall (rsOf w) (immOf w))
  | 0b11000#5 => .ok (.mtsab (rsOf w) (immOf w))
  | 0b11001#5 => .ok (.mtsah (rsOf w) (immOf w))
  | _ => .error .reserved

/-- MMI0, function 001000 (30_encoding.md R104). -/
noncomputable def decodeMmi0 (w : Word) : Decoded :=
  match saOf w with
  | 0b00000#5 => .ok (.paddw (rsOf w) (rtOf w) (rdOf w))
  | 0b00001#5 => .ok (.psubw (rsOf w) (rtOf w) (rdOf w))
  | 0b00010#5 => .ok (.pcgtw (rsOf w) (rtOf w) (rdOf w))
  | 0b00011#5 => .ok (.pmaxw (rsOf w) (rtOf w) (rdOf w))
  | 0b00100#5 => .ok (.paddh (rsOf w) (rtOf w) (rdOf w))
  | 0b00101#5 => .ok (.psubh (rsOf w) (rtOf w) (rdOf w))
  | 0b00110#5 => .ok (.pcgth (rsOf w) (rtOf w) (rdOf w))
  | 0b00111#5 => .ok (.pmaxh (rsOf w) (rtOf w) (rdOf w))
  | 0b01000#5 => .ok (.paddb (rsOf w) (rtOf w) (rdOf w))
  | 0b01001#5 => .ok (.psubb (rsOf w) (rtOf w) (rdOf w))
  | 0b01010#5 => .ok (.pcgtb (rsOf w) (rtOf w) (rdOf w))
  | 0b10000#5 => .ok (.paddsw (rsOf w) (rtOf w) (rdOf w))
  | 0b10001#5 => .ok (.psubsw (rsOf w) (rtOf w) (rdOf w))
  | 0b10010#5 => .ok (.pextlw (rsOf w) (rtOf w) (rdOf w))
  | 0b10011#5 => .ok (.ppacw (rsOf w) (rtOf w) (rdOf w))
  | 0b10100#5 => .ok (.paddsh (rsOf w) (rtOf w) (rdOf w))
  | 0b10101#5 => .ok (.psubsh (rsOf w) (rtOf w) (rdOf w))
  | 0b10110#5 => .ok (.pextlh (rsOf w) (rtOf w) (rdOf w))
  | 0b10111#5 => .ok (.ppach (rsOf w) (rtOf w) (rdOf w))
  | 0b11000#5 => .ok (.paddsb (rsOf w) (rtOf w) (rdOf w))
  | 0b11001#5 => .ok (.psubsb (rsOf w) (rtOf w) (rdOf w))
  | 0b11010#5 => .ok (.pextlb (rsOf w) (rtOf w) (rdOf w))
  | 0b11011#5 => .ok (.ppacb (rsOf w) (rtOf w) (rdOf w))
  | 0b11110#5 => strict (rsOf w = 0) (.pext5 (rtOf w) (rdOf w))
  | 0b11111#5 => strict (rsOf w = 0) (.ppac5 (rtOf w) (rdOf w))
  | _ => .error .reserved

/-- MMI1, function 101000 (30_encoding.md R104). -/
noncomputable def decodeMmi1 (w : Word) : Decoded :=
  match saOf w with
  | 0b00001#5 => strict (rsOf w = 0) (.pabsw (rtOf w) (rdOf w))
  | 0b00010#5 => .ok (.pceqw (rsOf w) (rtOf w) (rdOf w))
  | 0b00011#5 => .ok (.pminw (rsOf w) (rtOf w) (rdOf w))
  | 0b00100#5 => .ok (.padsbh (rsOf w) (rtOf w) (rdOf w))
  | 0b00101#5 => strict (rsOf w = 0) (.pabsh (rtOf w) (rdOf w))
  | 0b00110#5 => .ok (.pceqh (rsOf w) (rtOf w) (rdOf w))
  | 0b00111#5 => .ok (.pminh (rsOf w) (rtOf w) (rdOf w))
  | 0b01010#5 => .ok (.pceqb (rsOf w) (rtOf w) (rdOf w))
  | 0b10000#5 => .ok (.padduw (rsOf w) (rtOf w) (rdOf w))
  | 0b10001#5 => .ok (.psubuw (rsOf w) (rtOf w) (rdOf w))
  | 0b10010#5 => .ok (.pextuw (rsOf w) (rtOf w) (rdOf w))
  | 0b10100#5 => .ok (.padduh (rsOf w) (rtOf w) (rdOf w))
  | 0b10101#5 => .ok (.psubuh (rsOf w) (rtOf w) (rdOf w))
  | 0b10110#5 => .ok (.pextuh (rsOf w) (rtOf w) (rdOf w))
  | 0b11000#5 => .ok (.paddub (rsOf w) (rtOf w) (rdOf w))
  | 0b11001#5 => .ok (.psubub (rsOf w) (rtOf w) (rdOf w))
  | 0b11010#5 => .ok (.pextub (rsOf w) (rtOf w) (rdOf w))
  | 0b11011#5 => .ok (.qfsrv (rsOf w) (rtOf w) (rdOf w))
  | _ => .error .reserved

/-- MMI2, function 001001 (30_encoding.md R104). -/
noncomputable def decodeMmi2 (w : Word) : Decoded :=
  match saOf w with
  | 0b00000#5 => .ok (.pmaddw (rsOf w) (rtOf w) (rdOf w))
  | 0b00010#5 => .ok (.psllvw (rsOf w) (rtOf w) (rdOf w))
  | 0b00011#5 => .ok (.psrlvw (rsOf w) (rtOf w) (rdOf w))
  | 0b00100#5 => .ok (.pmsubw (rsOf w) (rtOf w) (rdOf w))
  | 0b01000#5 => strict (rsOf w = 0 ∧ rtOf w = 0) (.pmfhi (rdOf w))
  | 0b01001#5 => strict (rsOf w = 0 ∧ rtOf w = 0) (.pmflo (rdOf w))
  | 0b01010#5 => .ok (.pinth (rsOf w) (rtOf w) (rdOf w))
  | 0b01100#5 => .ok (.pmultw (rsOf w) (rtOf w) (rdOf w))
  | 0b01101#5 => strict (rdOf w = 0) (.pdivw (rsOf w) (rtOf w))
  | 0b01110#5 => .ok (.pcpyld (rsOf w) (rtOf w) (rdOf w))
  | 0b10000#5 => .ok (.pmaddh (rsOf w) (rtOf w) (rdOf w))
  | 0b10001#5 => .ok (.phmadh (rsOf w) (rtOf w) (rdOf w))
  | 0b10010#5 => .ok (.pand (rsOf w) (rtOf w) (rdOf w))
  | 0b10011#5 => .ok (.pxor (rsOf w) (rtOf w) (rdOf w))
  | 0b10100#5 => .ok (.pmsubh (rsOf w) (rtOf w) (rdOf w))
  | 0b10101#5 => .ok (.phmsbh (rsOf w) (rtOf w) (rdOf w))
  | 0b11010#5 => strict (rsOf w = 0) (.pexeh (rtOf w) (rdOf w))
  | 0b11011#5 => strict (rsOf w = 0) (.prevh (rtOf w) (rdOf w))
  | 0b11100#5 => .ok (.pmulth (rsOf w) (rtOf w) (rdOf w))
  | 0b11101#5 => strict (rdOf w = 0) (.pdivbw (rsOf w) (rtOf w))
  | 0b11110#5 => strict (rsOf w = 0) (.pexew (rtOf w) (rdOf w))
  | 0b11111#5 => strict (rsOf w = 0) (.prot3w (rtOf w) (rdOf w))
  | _ => .error .reserved

/-- MMI3, function 101001 (30_encoding.md R104). -/
noncomputable def decodeMmi3 (w : Word) : Decoded :=
  match saOf w with
  | 0b00000#5 => .ok (.pmadduw (rsOf w) (rtOf w) (rdOf w))
  | 0b00011#5 => .ok (.psravw (rsOf w) (rtOf w) (rdOf w))
  | 0b01000#5 => strict (rtOf w = 0 ∧ rdOf w = 0) (.pmthi (rsOf w))
  | 0b01001#5 => strict (rtOf w = 0 ∧ rdOf w = 0) (.pmtlo (rsOf w))
  | 0b01010#5 => .ok (.pinteh (rsOf w) (rtOf w) (rdOf w))
  | 0b01100#5 => .ok (.pmultuw (rsOf w) (rtOf w) (rdOf w))
  | 0b01101#5 => strict (rdOf w = 0) (.pdivuw (rsOf w) (rtOf w))
  | 0b01110#5 => .ok (.pcpyud (rsOf w) (rtOf w) (rdOf w))
  | 0b10011#5 => .ok (.pnor (rsOf w) (rtOf w) (rdOf w))
  | 0b11010#5 => strict (rsOf w = 0) (.pexch (rtOf w) (rdOf w))
  | 0b11011#5 => strict (rsOf w = 0) (.pcpyh (rtOf w) (rdOf w))
  | 0b11110#5 => strict (rsOf w = 0) (.pexcw (rtOf w) (rdOf w))
  | 0b10010#5 => .error (.unlisted "POR")
  | _ => .error .reserved

/-- PMFHL, function 110000 of MMI: the selector stands in bits 10:6 (30_encoding.md R103). -/
def decodePmfhl (w : Word) : Decoded :=
  match saOf w with
  | 0b00000#5 => strict (rsOf w = 0 ∧ rtOf w = 0) (.pmfhlLw (rdOf w))
  | 0b00001#5 => strict (rsOf w = 0 ∧ rtOf w = 0) (.pmfhlUw (rdOf w))
  | 0b00010#5 => strict (rsOf w = 0 ∧ rtOf w = 0) (.pmfhlSlw (rdOf w))
  | 0b00011#5 => strict (rsOf w = 0 ∧ rtOf w = 0) (.pmfhlLh (rdOf w))
  | 0b00100#5 => strict (rsOf w = 0 ∧ rtOf w = 0) (.pmfhlSh (rdOf w))
  | _ => .error .reserved

/-- Opcode 011100 (30_encoding.md R103). -/
noncomputable def decodeMmi (w : Word) : Decoded :=
  match fnOf w with
  | 0b000000#6 => strict (saOf w = 0) (.madd (rsOf w) (rtOf w) (rdOf w))
  | 0b000001#6 => strict (saOf w = 0) (.maddu (rsOf w) (rtOf w) (rdOf w))
  | 0b000100#6 => strict (rtOf w = 0 ∧ saOf w = 0) (.plzcw (rsOf w) (rdOf w))
  | 0b010000#6 => strict (rsOf w = 0 ∧ rtOf w = 0 ∧ saOf w = 0) (.mfhi1 (rdOf w))
  | 0b010001#6 => strict (rtOf w = 0 ∧ rdOf w = 0 ∧ saOf w = 0) (.mthi1 (rsOf w))
  | 0b010010#6 => strict (rsOf w = 0 ∧ rtOf w = 0 ∧ saOf w = 0) (.mflo1 (rdOf w))
  | 0b010011#6 => strict (rtOf w = 0 ∧ rdOf w = 0 ∧ saOf w = 0) (.mtlo1 (rsOf w))
  | 0b011000#6 => strict (saOf w = 0) (.mult1 (rsOf w) (rtOf w) (rdOf w))
  | 0b011001#6 => strict (saOf w = 0) (.multu1 (rsOf w) (rtOf w) (rdOf w))
  | 0b011010#6 => strict (rdOf w = 0 ∧ saOf w = 0) (.div1 (rsOf w) (rtOf w))
  | 0b011011#6 => strict (rdOf w = 0 ∧ saOf w = 0) (.divu1 (rsOf w) (rtOf w))
  | 0b100000#6 => strict (saOf w = 0) (.madd1 (rsOf w) (rtOf w) (rdOf w))
  | 0b100001#6 => strict (saOf w = 0) (.maddu1 (rsOf w) (rtOf w) (rdOf w))
  | 0b110001#6 => strict (rtOf w = 0 ∧ rdOf w = 0 ∧ saOf w = 0) (.pmthlLw (rsOf w))
  | 0b110100#6 => strict (rsOf w = 0) (.psllh (rtOf w) (rdOf w) (saOf w))
  | 0b110110#6 => strict (rsOf w = 0) (.psrlh (rtOf w) (rdOf w) (saOf w))
  | 0b110111#6 => strict (rsOf w = 0) (.psrah (rtOf w) (rdOf w) (saOf w))
  | 0b111100#6 => strict (rsOf w = 0) (.psllw (rtOf w) (rdOf w) (saOf w))
  | 0b111110#6 => strict (rsOf w = 0) (.psrlw (rtOf w) (rdOf w) (saOf w))
  | 0b111111#6 => strict (rsOf w = 0) (.psraw (rtOf w) (rdOf w) (saOf w))
  | 0b001000#6 => decodeMmi0 w
  | 0b101000#6 => decodeMmi1 w
  | 0b001001#6 => decodeMmi2 w
  | 0b101001#6 => decodeMmi3 w
  | 0b110000#6 => decodePmfhl w
  | _ => .error .reserved

/-- Moves from the breakpoint registers, rd = 24 (30_encoding.md R105). -/
def decodeDebugFrom (w : Word) : Decoded :=
  match fnOf w with
  | 0b000000#6 => strict (saOf w = 0) (.mfbpc (rtOf w))
  | 0b000010#6 => strict (saOf w = 0) (.mfiab (rtOf w))
  | 0b000011#6 => strict (saOf w = 0) (.mfiabm (rtOf w))
  | 0b000100#6 => strict (saOf w = 0) (.mfdab (rtOf w))
  | 0b000101#6 => strict (saOf w = 0) (.mfdabm (rtOf w))
  | 0b000110#6 => strict (saOf w = 0) (.mfdvb (rtOf w))
  | 0b000111#6 => strict (saOf w = 0) (.mfdvbm (rtOf w))
  | _ => .error .reserved

/-- Moves to the breakpoint registers, rd = 24 (30_encoding.md R105). -/
def decodeDebugTo (w : Word) : Decoded :=
  match fnOf w with
  | 0b000000#6 => strict (saOf w = 0) (.mtbpc (rtOf w))
  | 0b000010#6 => strict (saOf w = 0) (.mtiab (rtOf w))
  | 0b000100#6 => strict (saOf w = 0) (.mtdab (rtOf w))
  | 0b000101#6 => strict (saOf w = 0) (.mtdabm (rtOf w))
  | 0b000110#6 => strict (saOf w = 0) (.mtdvb (rtOf w))
  | 0b000111#6 => strict (saOf w = 0) (.mtdvbm (rtOf w))
  | 0b000011#6 => strictUnlisted (saOf w = 0) "MTIABM"
  | _ => .error .reserved

/-- Moves from coprocessor 0: register number 24 holds the breakpoint registers, 25 the performance registers, whose
rows come before MFC0 (30_encoding.md R105, R107). -/
def decodeCop0From (w : Word) : Decoded :=
  match rdOf w with
  | 0b11000#5 => decodeDebugFrom w
  | 0b11001#5 =>
    if (fnOf w).getLsbD 0 then strict (saOf w = 0) (.mfpc (rtOf w) (perfRegOf w))
    else strict (saOf w = 0) (.mfps (rtOf w) (perfRegOf w))
  | _ => strict (saOf w = 0 ∧ fnOf w = 0) (.mfc0 (rtOf w) (rdOf w))

/-- Moves to coprocessor 0: register number 24 holds the breakpoint registers, 25 the performance registers, whose
rows come before MTC0 (30_encoding.md R105, R107). -/
def decodeCop0To (w : Word) : Decoded :=
  match rdOf w with
  | 0b11000#5 => decodeDebugTo w
  | 0b11001#5 =>
    if (fnOf w).getLsbD 0 then strict (saOf w = 0) (.mtpc (rtOf w) (perfRegOf w))
    else strict (saOf w = 0) (.mtps (rtOf w) (perfRegOf w))
  | _ => strict (saOf w = 0 ∧ fnOf w = 0) (.mtc0 (rtOf w) (rdOf w))

/-- The coprocessor-0 branches (30_encoding.md R105). -/
def decodeBc0 (w : Word) : Decoded :=
  match rtOf w with
  | 0b00000#5 => .ok (.bc0f (immOf w))
  | 0b00001#5 => .ok (.bc0t (immOf w))
  | 0b00010#5 => .ok (.bc0fl (immOf w))
  | 0b00011#5 => .ok (.bc0tl (immOf w))
  | _ => .error .reserved

/-- The coprocessor-0 operations: bits 20:6 are zero (30_encoding.md R105). -/
def decodeC0op (w : Word) : Decoded :=
  match fnOf w with
  | 0b011000#6 => strict (rtOf w = 0 ∧ rdOf w = 0 ∧ saOf w = 0) (.eret)
  | 0b111000#6 => strict (rtOf w = 0 ∧ rdOf w = 0 ∧ saOf w = 0) (.ei)
  | 0b111001#6 => strict (rtOf w = 0 ∧ rdOf w = 0 ∧ saOf w = 0) (.di)
  | 0b000001#6 => strictUnlisted (rtOf w = 0 ∧ rdOf w = 0 ∧ saOf w = 0) "TLBR"
  | 0b000010#6 => strictUnlisted (rtOf w = 0 ∧ rdOf w = 0 ∧ saOf w = 0) "TLBWI"
  | 0b000110#6 => strictUnlisted (rtOf w = 0 ∧ rdOf w = 0 ∧ saOf w = 0) "TLBWR"
  | 0b001000#6 => strictUnlisted (rtOf w = 0 ∧ rdOf w = 0 ∧ saOf w = 0) "TLBP"
  | _ => .error .reserved

/-- Opcode 010000 (30_encoding.md R105). -/
def decodeCop0 (w : Word) : Decoded :=
  match rsOf w with
  | 0b00000#5 => decodeCop0From w
  | 0b00100#5 => decodeCop0To w
  | 0b01000#5 => decodeBc0 w
  | 0b10000#5 => decodeC0op w
  | _ => .error .reserved

/-- The floating-point branches (30_encoding.md R106). -/
def decodeBc1 (w : Word) : Decoded :=
  match rtOf w with
  | 0b00000#5 => .ok (.bc1f (immOf w))
  | 0b00001#5 => .ok (.bc1t (immOf w))
  | 0b00010#5 => .ok (.bc1fl (immOf w))
  | 0b00011#5 => .ok (.bc1tl (immOf w))
  | _ => .error .reserved

/-- Format S of coprocessor 1 (30_encoding.md R106). -/
def decodeFmtS (w : Word) : Decoded :=
  match fnOf w with
  | 0b000000#6 => .ok (.addS (rtOf w) (rdOf w) (saOf w))
  | 0b000001#6 => .ok (.subS (rtOf w) (rdOf w) (saOf w))
  | 0b000010#6 => .ok (.mulS (rtOf w) (rdOf w) (saOf w))
  | 0b000011#6 => .ok (.divS (rtOf w) (rdOf w) (saOf w))
  | 0b000100#6 => strict (rdOf w = 0) (.sqrtS (rtOf w) (saOf w))
  | 0b000101#6 => strict (rtOf w = 0) (.absS (rdOf w) (saOf w))
  | 0b000110#6 => strict (rtOf w = 0) (.movS (rdOf w) (saOf w))
  | 0b000111#6 => strict (rtOf w = 0) (.negS (rdOf w) (saOf w))
  | 0b010110#6 => .ok (.rsqrtS (rtOf w) (rdOf w) (saOf w))
  | 0b011001#6 => strict (saOf w = 0) (.subaS (rtOf w) (rdOf w))
  | 0b011010#6 => strict (saOf w = 0) (.mulaS (rtOf w) (rdOf w))
  | 0b011100#6 => .ok (.maddS (rtOf w) (rdOf w) (saOf w))
  | 0b011101#6 => .ok (.msubS (rtOf w) (rdOf w) (saOf w))
  | 0b011110#6 => strict (saOf w = 0) (.maddaS (rtOf w) (rdOf w))
  | 0b011111#6 => strict (saOf w = 0) (.msubaS (rtOf w) (rdOf w))
  | 0b100100#6 => strict (rtOf w = 0) (.cvtWS (rdOf w) (saOf w))
  | 0b101000#6 => .ok (.maxS (rtOf w) (rdOf w) (saOf w))
  | 0b101001#6 => .ok (.minS (rtOf w) (rdOf w) (saOf w))
  | 0b110000#6 => strict (saOf w = 0) (.cFS (rtOf w) (rdOf w))
  | 0b110010#6 => strict (saOf w = 0) (.cEqS (rtOf w) (rdOf w))
  | 0b110100#6 => strict (saOf w = 0) (.cLtS (rtOf w) (rdOf w))
  | 0b110110#6 => strict (saOf w = 0) (.cLeS (rtOf w) (rdOf w))
  | 0b011000#6 => strictUnlisted (saOf w = 0) "ADDA.S"
  | _ => .error .reserved

/-- Format W of coprocessor 1 (30_encoding.md R106). -/
def decodeFmtW (w : Word) : Decoded :=
  match fnOf w with
  | 0b100000#6 => strict (rtOf w = 0) (.cvtSW (rdOf w) (saOf w))
  | _ => .error .reserved

/-- Opcode 010001 (30_encoding.md R106). -/
def decodeCop1 (w : Word) : Decoded :=
  match rsOf w with
  | 0b00000#5 => strict (saOf w = 0 ∧ fnOf w = 0) (.mfc1 (rtOf w) (rdOf w))
  | 0b00010#5 => strict (saOf w = 0 ∧ fnOf w = 0) (.cfc1 (rtOf w) (rdOf w))
  | 0b00100#5 => strict (saOf w = 0 ∧ fnOf w = 0) (.mtc1 (rtOf w) (rdOf w))
  | 0b00110#5 => strict (saOf w = 0 ∧ fnOf w = 0) (.ctc1 (rtOf w) (rdOf w))
  | 0b01000#5 => decodeBc1 w
  | 0b10000#5 => decodeFmtS w
  | 0b10100#5 => decodeFmtW w
  | _ => .error .reserved

/-- The instruction a word stands for (30_encoding.md R100, R107). -/
noncomputable def decode (w : Word) : Decoded :=
  match opOf w with
  | 0b000000#6 => decodeSpecial w
  | 0b000001#6 => decodeRegimm w
  | 0b010000#6 => decodeCop0 w
  | 0b010001#6 => decodeCop1 w
  | 0b011100#6 => decodeMmi w
  | 0b010010#6 => .error .coprocessor2
  | 0b110110#6 => .error .coprocessor2
  | 0b111110#6 => .error .coprocessor2
  | 0b101111#6 => .error (.unlisted "CACHE")
  | 0b000010#6 => .ok (.j (indexOf w))
  | 0b000011#6 => .ok (.jal (indexOf w))
  | 0b000100#6 => .ok (.beq (rsOf w) (rtOf w) (immOf w))
  | 0b000101#6 => .ok (.bne (rsOf w) (rtOf w) (immOf w))
  | 0b000110#6 => strict (rtOf w = 0) (.blez (rsOf w) (immOf w))
  | 0b000111#6 => strict (rtOf w = 0) (.bgtz (rsOf w) (immOf w))
  | 0b001000#6 => .ok (.addi (rsOf w) (rtOf w) (immOf w))
  | 0b001001#6 => .ok (.addiu (rsOf w) (rtOf w) (immOf w))
  | 0b001010#6 => .ok (.slti (rsOf w) (rtOf w) (immOf w))
  | 0b001011#6 => .ok (.sltiu (rsOf w) (rtOf w) (immOf w))
  | 0b001100#6 => .ok (.andi (rsOf w) (rtOf w) (immOf w))
  | 0b001101#6 => .ok (.ori (rsOf w) (rtOf w) (immOf w))
  | 0b001110#6 => .ok (.xori (rsOf w) (rtOf w) (immOf w))
  | 0b001111#6 => strict (rsOf w = 0) (.lui (rtOf w) (immOf w))
  | 0b010100#6 => .ok (.beql (rsOf w) (rtOf w) (immOf w))
  | 0b010101#6 => .ok (.bnel (rsOf w) (rtOf w) (immOf w))
  | 0b010110#6 => strict (rtOf w = 0) (.blezl (rsOf w) (immOf w))
  | 0b010111#6 => strict (rtOf w = 0) (.bgtzl (rsOf w) (immOf w))
  | 0b011000#6 => .ok (.daddi (rsOf w) (rtOf w) (immOf w))
  | 0b011001#6 => .ok (.daddiu (rsOf w) (rtOf w) (immOf w))
  | 0b011010#6 => .ok (.ldl (rsOf w) (rtOf w) (immOf w))
  | 0b011011#6 => .ok (.ldr (rsOf w) (rtOf w) (immOf w))
  | 0b011110#6 => .ok (.lq (rsOf w) (rtOf w) (immOf w))
  | 0b011111#6 => .ok (.sq (rsOf w) (rtOf w) (immOf w))
  | 0b100000#6 => .ok (.lb (rsOf w) (rtOf w) (immOf w))
  | 0b100001#6 => .ok (.lh (rsOf w) (rtOf w) (immOf w))
  | 0b100010#6 => .ok (.lwl (rsOf w) (rtOf w) (immOf w))
  | 0b100011#6 => .ok (.lw (rsOf w) (rtOf w) (immOf w))
  | 0b100100#6 => .ok (.lbu (rsOf w) (rtOf w) (immOf w))
  | 0b100101#6 => .ok (.lhu (rsOf w) (rtOf w) (immOf w))
  | 0b100110#6 => .ok (.lwr (rsOf w) (rtOf w) (immOf w))
  | 0b100111#6 => .ok (.lwu (rsOf w) (rtOf w) (immOf w))
  | 0b101000#6 => .ok (.sb (rsOf w) (rtOf w) (immOf w))
  | 0b101001#6 => .ok (.sh (rsOf w) (rtOf w) (immOf w))
  | 0b101010#6 => .ok (.swl (rsOf w) (rtOf w) (immOf w))
  | 0b101011#6 => .ok (.sw (rsOf w) (rtOf w) (immOf w))
  | 0b101100#6 => .ok (.sdl (rsOf w) (rtOf w) (immOf w))
  | 0b101101#6 => .ok (.sdr (rsOf w) (rtOf w) (immOf w))
  | 0b101110#6 => .ok (.swr (rsOf w) (rtOf w) (immOf w))
  | 0b110001#6 => .ok (.lwc1 (rsOf w) (rtOf w) (immOf w))
  | 0b110011#6 => .ok (.pref (rsOf w) (rtOf w) (immOf w))
  | 0b110111#6 => .ok (.ld (rsOf w) (rtOf w) (immOf w))
  | 0b111001#6 => .ok (.swc1 (rsOf w) (rtOf w) (immOf w))
  | 0b111111#6 => .ok (.sd (rsOf w) (rtOf w) (immOf w))
  | _ => .error .reserved

/-- The word whose bytes lie at rising addresses in the given order: the first byte is bits 7:0 (20_memory.md R63). -/
def wordOfBytes (b0 b1 b2 b3 : Byte) : Word := b3 ++ b2 ++ b1 ++ b0

/-- The four bytes of a word, the byte of the lowest address first (20_memory.md R63). -/
def bytesOfWord (w : Word) : List Byte :=
  [w.extractLsb' 0 8, w.extractLsb' 8 8, w.extractLsb' 16 8, w.extractLsb' 24 8]

/-- Decode the instruction at the front of a byte stream, with the bytes that follow it. -/
noncomputable def decodeBytes : List Byte → Except DecodeError (Instr × List Byte)
  | b0 :: b1 :: b2 :: b3 :: rest =>
    match decode (wordOfBytes b0 b1 b2 b3) with
    | .ok i => .ok (i, rest)
    | .error e => .error e
  | _ => .error .truncated

/-- The instruction whose bits are `w` as the opcode table numbers them, `nbits` of them, the rest 0: laid out in memory
order and given to the decoder. -/
noncomputable def decodeTableWord (nbits w : Nat) : Option Instr :=
  match decodeBytes (bytesOfWord (BitVec.ofNat 32 (w % 2 ^ nbits))) with
  | .ok (i, _) => some i
  | .error _ => none

/-! ## The encoder -/

/-- Formats R, MMI, MMI-sub, C0-move, C1-move and C1-op (30_encoding.md R91, R92). -/
def mkR (op : BitVec 6) (rs rt rd sa : BitVec 5) (fn : BitVec 6) : Word := op ++ rs ++ rt ++ rd ++ sa ++ fn

/-- Formats I, I-mem, I-br1, REGIMM and BC. -/
def mkI (op : BitVec 6) (rs rt : BitVec 5) (imm : BitVec 16) : Word := op ++ rs ++ rt ++ imm

/-- Format J. -/
def mkJ (op : BitVec 6) (index : BitVec 26) : Word := op ++ index

/-- Format R-code. -/
def mkCode (code : BitVec 20) (fn : BitVec 6) : Word := 0b000000#6 ++ code ++ fn

/-- Format R-trap. -/
def mkTrap (rs rt : BitVec 5) (code : BitVec 10) (fn : BitVec 6) : Word := 0b000000#6 ++ rs ++ rt ++ code ++ fn

/-- A performance move: C0-move with rd = 25 and the low bits `reg` and `sel`. -/
def mkPerf (sub rt reg : BitVec 5) (sel : BitVec 1) : Word :=
  0b010000#6 ++ sub ++ rt ++ 0b11001#5 ++ 0b00000#5 ++ reg ++ sel

/-- The word of an instruction, from its encoding pattern. -/
def encode : Instr → Word
  | .add rs rt rd => mkR 0b000000#6 rs rt rd 0b00000#5 0b100000#6
  | .mult rs rt rd => mkR 0b000000#6 rs rt rd 0b00000#5 0b011000#6
  | .blez rs offset => mkI 0b000110#6 rs 0b00000#5 offset
  | .lb base rt offset => mkI 0b100000#6 base rt offset
  | .addu rs rt rd => mkR 0b000000#6 rs rt rd 0b00000#5 0b100001#6
  | .subu rs rt rd => mkR 0b000000#6 rs rt rd 0b00000#5 0b100011#6
  | .beq rs rt offset => mkI 0b000100#6 rs rt offset
  | .bne rs rt offset => mkI 0b000101#6 rs rt offset
  | .mfhi rd => mkR 0b000000#6 0b00000#5 0b00000#5 rd 0b00000#5 0b010000#6
  | .mflo rd => mkR 0b000000#6 0b00000#5 0b00000#5 rd 0b00000#5 0b010010#6
  | .syscall code => mkCode code 0b001100#6
  | .sw base rt offset => mkI 0b101011#6 base rt offset
  | .jal index => mkJ 0b000011#6 index
  | .lw base rt offset => mkI 0b100011#6 base rt offset
  | .jr rs => mkR 0b000000#6 rs 0b00000#5 0b00000#5 0b00000#5 0b001000#6
  | .div rs rt => mkR 0b000000#6 rs rt 0b00000#5 0b00000#5 0b011010#6
  | .bltzal rs offset => mkI 0b000001#6 rs 0b10000#5 offset
  | .bgezal rs offset => mkI 0b000001#6 rs 0b10001#5 offset
  | .lui rt imm => mkI 0b001111#6 0b00000#5 rt imm
  | .and rs rt rd => mkR 0b000000#6 rs rt rd 0b00000#5 0b100100#6
  | .addi rs rt imm => mkI 0b001000#6 rs rt imm
  | .addiu rs rt imm => mkI 0b001001#6 rs rt imm
  | .sub rs rt rd => mkR 0b000000#6 rs rt rd 0b00000#5 0b100010#6
  | .andi rs rt imm => mkI 0b001100#6 rs rt imm
  | .ori rs rt imm => mkI 0b001101#6 rs rt imm
  | .or rs rt rd => mkR 0b000000#6 rs rt rd 0b00000#5 0b100101#6
  | .xor rs rt rd => mkR 0b000000#6 rs rt rd 0b00000#5 0b100110#6
  | .xori rs rt imm => mkI 0b001110#6 rs rt imm
  | .nor rs rt rd => mkR 0b000000#6 rs rt rd 0b00000#5 0b100111#6
  | .slt rs rt rd => mkR 0b000000#6 rs rt rd 0b00000#5 0b101010#6
  | .slti rs rt imm => mkI 0b001010#6 rs rt imm
  | .sltu rs rt rd => mkR 0b000000#6 rs rt rd 0b00000#5 0b101011#6
  | .sltiu rs rt imm => mkI 0b001011#6 rs rt imm
  | .movn rs rt rd => mkR 0b000000#6 rs rt rd 0b00000#5 0b001011#6
  | .movz rs rt rd => mkR 0b000000#6 rs rt rd 0b00000#5 0b001010#6
  | .dadd rs rt rd => mkR 0b000000#6 rs rt rd 0b00000#5 0b101100#6
  | .daddi rs rt imm => mkI 0b011000#6 rs rt imm
  | .daddiu rs rt imm => mkI 0b011001#6 rs rt imm
  | .daddu rs rt rd => mkR 0b000000#6 rs rt rd 0b00000#5 0b101101#6
  | .dsub rs rt rd => mkR 0b000000#6 rs rt rd 0b00000#5 0b101110#6
  | .dsubu rs rt rd => mkR 0b000000#6 rs rt rd 0b00000#5 0b101111#6
  | .sll rt rd sa => mkR 0b000000#6 0b00000#5 rt rd sa 0b000000#6
  | .srl rt rd sa => mkR 0b000000#6 0b00000#5 rt rd sa 0b000010#6
  | .sra rt rd sa => mkR 0b000000#6 0b00000#5 rt rd sa 0b000011#6
  | .sllv rs rt rd => mkR 0b000000#6 rs rt rd 0b00000#5 0b000100#6
  | .srlv rs rt rd => mkR 0b000000#6 rs rt rd 0b00000#5 0b000110#6
  | .srav rs rt rd => mkR 0b000000#6 rs rt rd 0b00000#5 0b000111#6
  | .dsll rt rd sa => mkR 0b000000#6 0b00000#5 rt rd sa 0b111000#6
  | .dsrl rt rd sa => mkR 0b000000#6 0b00000#5 rt rd sa 0b111010#6
  | .dsra rt rd sa => mkR 0b000000#6 0b00000#5 rt rd sa 0b111011#6
  | .dsll32 rt rd sa => mkR 0b000000#6 0b00000#5 rt rd sa 0b111100#6
  | .dsrl32 rt rd sa => mkR 0b000000#6 0b00000#5 rt rd sa 0b111110#6
  | .dsra32 rt rd sa => mkR 0b000000#6 0b00000#5 rt rd sa 0b111111#6
  | .dsllv rs rt rd => mkR 0b000000#6 rs rt rd 0b00000#5 0b010100#6
  | .dsrlv rs rt rd => mkR 0b000000#6 rs rt rd 0b00000#5 0b010110#6
  | .dsrav rs rt rd => mkR 0b000000#6 rs rt rd 0b00000#5 0b010111#6
  | .multu rs rt rd => mkR 0b000000#6 rs rt rd 0b00000#5 0b011001#6
  | .divu rs rt => mkR 0b000000#6 rs rt 0b00000#5 0b00000#5 0b011011#6
  | .mult1 rs rt rd => mkR 0b011100#6 rs rt rd 0b00000#5 0b011000#6
  | .multu1 rs rt rd => mkR 0b011100#6 rs rt rd 0b00000#5 0b011001#6
  | .div1 rs rt => mkR 0b011100#6 rs rt 0b00000#5 0b00000#5 0b011010#6
  | .divu1 rs rt => mkR 0b011100#6 rs rt 0b00000#5 0b00000#5 0b011011#6
  | .madd rs rt rd => mkR 0b011100#6 rs rt rd 0b00000#5 0b000000#6
  | .maddu rs rt rd => mkR 0b011100#6 rs rt rd 0b00000#5 0b000001#6
  | .madd1 rs rt rd => mkR 0b011100#6 rs rt rd 0b00000#5 0b100000#6
  | .maddu1 rs rt rd => mkR 0b011100#6 rs rt rd 0b00000#5 0b100001#6
  | .mthi rs => mkR 0b000000#6 rs 0b00000#5 0b00000#5 0b00000#5 0b010001#6
  | .mtlo rs => mkR 0b000000#6 rs 0b00000#5 0b00000#5 0b00000#5 0b010011#6
  | .mfhi1 rd => mkR 0b011100#6 0b00000#5 0b00000#5 rd 0b00000#5 0b010000#6
  | .mflo1 rd => mkR 0b011100#6 0b00000#5 0b00000#5 rd 0b00000#5 0b010010#6
  | .mthi1 rs => mkR 0b011100#6 rs 0b00000#5 0b00000#5 0b00000#5 0b010001#6
  | .mtlo1 rs => mkR 0b011100#6 rs 0b00000#5 0b00000#5 0b00000#5 0b010011#6
  | .beql rs rt offset => mkI 0b010100#6 rs rt offset
  | .bnel rs rt offset => mkI 0b010101#6 rs rt offset
  | .bgez rs offset => mkI 0b000001#6 rs 0b00001#5 offset
  | .bgezl rs offset => mkI 0b000001#6 rs 0b00011#5 offset
  | .bgezall rs offset => mkI 0b000001#6 rs 0b10011#5 offset
  | .bgtz rs offset => mkI 0b000111#6 rs 0b00000#5 offset
  | .bgtzl rs offset => mkI 0b010111#6 rs 0b00000#5 offset
  | .blezl rs offset => mkI 0b010110#6 rs 0b00000#5 offset
  | .bltz rs offset => mkI 0b000001#6 rs 0b00000#5 offset
  | .bltzl rs offset => mkI 0b000001#6 rs 0b00010#5 offset
  | .bltzall rs offset => mkI 0b000001#6 rs 0b10010#5 offset
  | .j index => mkJ 0b000010#6 index
  | .jalr rs rd => mkR 0b000000#6 rs 0b00000#5 rd 0b00000#5 0b001001#6
  | .lbu base rt offset => mkI 0b100100#6 base rt offset
  | .lh base rt offset => mkI 0b100001#6 base rt offset
  | .lhu base rt offset => mkI 0b100101#6 base rt offset
  | .lwu base rt offset => mkI 0b100111#6 base rt offset
  | .ld base rt offset => mkI 0b110111#6 base rt offset
  | .lq base rt offset => mkI 0b011110#6 base rt offset
  | .lwl base rt offset => mkI 0b100010#6 base rt offset
  | .lwr base rt offset => mkI 0b100110#6 base rt offset
  | .ldl base rt offset => mkI 0b011010#6 base rt offset
  | .ldr base rt offset => mkI 0b011011#6 base rt offset
  | .sb base rt offset => mkI 0b101000#6 base rt offset
  | .sh base rt offset => mkI 0b101001#6 base rt offset
  | .sd base rt offset => mkI 0b111111#6 base rt offset
  | .sq base rt offset => mkI 0b011111#6 base rt offset
  | .swl base rt offset => mkI 0b101010#6 base rt offset
  | .swr base rt offset => mkI 0b101110#6 base rt offset
  | .sdl base rt offset => mkI 0b101100#6 base rt offset
  | .sdr base rt offset => mkI 0b101101#6 base rt offset
  | .pref base hint offset => mkI 0b110011#6 base hint offset
  | .sync stype => mkR 0b000000#6 0b00000#5 0b00000#5 0b00000#5 stype 0b001111#6
  | .breakI code => mkCode code 0b001101#6
  | .tge rs rt code => mkTrap rs rt code 0b110000#6
  | .tgeu rs rt code => mkTrap rs rt code 0b110001#6
  | .tlt rs rt code => mkTrap rs rt code 0b110010#6
  | .tltu rs rt code => mkTrap rs rt code 0b110011#6
  | .teq rs rt code => mkTrap rs rt code 0b110100#6
  | .tne rs rt code => mkTrap rs rt code 0b110110#6
  | .tgei rs imm => mkI 0b000001#6 rs 0b01000#5 imm
  | .tgeiu rs imm => mkI 0b000001#6 rs 0b01001#5 imm
  | .tlti rs imm => mkI 0b000001#6 rs 0b01010#5 imm
  | .tltiu rs imm => mkI 0b000001#6 rs 0b01011#5 imm
  | .teqi rs imm => mkI 0b000001#6 rs 0b01100#5 imm
  | .tnei rs imm => mkI 0b000001#6 rs 0b01110#5 imm
  | .eret => mkR 0b010000#6 0b10000#5 0b00000#5 0b00000#5 0b00000#5 0b011000#6
  | .ei => mkR 0b010000#6 0b10000#5 0b00000#5 0b00000#5 0b00000#5 0b111000#6
  | .di => mkR 0b010000#6 0b10000#5 0b00000#5 0b00000#5 0b00000#5 0b111001#6
  | .mfc0 rt rd => mkR 0b010000#6 0b00000#5 rt rd 0b00000#5 0b000000#6
  | .mtc0 rt rd => mkR 0b010000#6 0b00100#5 rt rd 0b00000#5 0b000000#6
  | .bc0f offset => mkI 0b010000#6 0b01000#5 0b00000#5 offset
  | .bc0fl offset => mkI 0b010000#6 0b01000#5 0b00010#5 offset
  | .bc0t offset => mkI 0b010000#6 0b01000#5 0b00001#5 offset
  | .bc0tl offset => mkI 0b010000#6 0b01000#5 0b00011#5 offset
  | .mfbpc rt => mkR 0b010000#6 0b00000#5 rt 0b11000#5 0b00000#5 0b000000#6
  | .mfiab rt => mkR 0b010000#6 0b00000#5 rt 0b11000#5 0b00000#5 0b000010#6
  | .mfiabm rt => mkR 0b010000#6 0b00000#5 rt 0b11000#5 0b00000#5 0b000011#6
  | .mfdab rt => mkR 0b010000#6 0b00000#5 rt 0b11000#5 0b00000#5 0b000100#6
  | .mfdabm rt => mkR 0b010000#6 0b00000#5 rt 0b11000#5 0b00000#5 0b000101#6
  | .mfdvb rt => mkR 0b010000#6 0b00000#5 rt 0b11000#5 0b00000#5 0b000110#6
  | .mfdvbm rt => mkR 0b010000#6 0b00000#5 rt 0b11000#5 0b00000#5 0b000111#6
  | .mtbpc rt => mkR 0b010000#6 0b00100#5 rt 0b11000#5 0b00000#5 0b000000#6
  | .mtiab rt => mkR 0b010000#6 0b00100#5 rt 0b11000#5 0b00000#5 0b000010#6
  | .mtdab rt => mkR 0b010000#6 0b00100#5 rt 0b11000#5 0b00000#5 0b000100#6
  | .mtdabm rt => mkR 0b010000#6 0b00100#5 rt 0b11000#5 0b00000#5 0b000101#6
  | .mtdvb rt => mkR 0b010000#6 0b00100#5 rt 0b11000#5 0b00000#5 0b000110#6
  | .mtdvbm rt => mkR 0b010000#6 0b00100#5 rt 0b11000#5 0b00000#5 0b000111#6
  | .mfpc rt reg => mkPerf 0b00000#5 rt reg 1#1
  | .mfps rt reg => mkPerf 0b00000#5 rt reg 0#1
  | .mtpc rt reg => mkPerf 0b00100#5 rt reg 1#1
  | .mtps rt reg => mkPerf 0b00100#5 rt reg 0#1
  | .mfc1 rt fs => mkR 0b010001#6 0b00000#5 rt fs 0b00000#5 0b000000#6
  | .mtc1 rt fs => mkR 0b010001#6 0b00100#5 rt fs 0b00000#5 0b000000#6
  | .cfc1 rt fs => mkR 0b010001#6 0b00010#5 rt fs 0b00000#5 0b000000#6
  | .ctc1 rt fs => mkR 0b010001#6 0b00110#5 rt fs 0b00000#5 0b000000#6
  | .lwc1 base ft offset => mkI 0b110001#6 base ft offset
  | .swc1 base ft offset => mkI 0b111001#6 base ft offset
  | .movS fs fd => mkR 0b010001#6 0b10000#5 0b00000#5 fs fd 0b000110#6
  | .absS fs fd => mkR 0b010001#6 0b10000#5 0b00000#5 fs fd 0b000101#6
  | .negS fs fd => mkR 0b010001#6 0b10000#5 0b00000#5 fs fd 0b000111#6
  | .cFS ft fs => mkR 0b010001#6 0b10000#5 ft fs 0b00000#5 0b110000#6
  | .cEqS ft fs => mkR 0b010001#6 0b10000#5 ft fs 0b00000#5 0b110010#6
  | .cLtS ft fs => mkR 0b010001#6 0b10000#5 ft fs 0b00000#5 0b110100#6
  | .cLeS ft fs => mkR 0b010001#6 0b10000#5 ft fs 0b00000#5 0b110110#6
  | .bc1f offset => mkI 0b010001#6 0b01000#5 0b00000#5 offset
  | .bc1fl offset => mkI 0b010001#6 0b01000#5 0b00010#5 offset
  | .bc1t offset => mkI 0b010001#6 0b01000#5 0b00001#5 offset
  | .bc1tl offset => mkI 0b010001#6 0b01000#5 0b00011#5 offset
  | .addS ft fs fd => mkR 0b010001#6 0b10000#5 ft fs fd 0b000000#6
  | .subS ft fs fd => mkR 0b010001#6 0b10000#5 ft fs fd 0b000001#6
  | .mulS ft fs fd => mkR 0b010001#6 0b10000#5 ft fs fd 0b000010#6
  | .divS ft fs fd => mkR 0b010001#6 0b10000#5 ft fs fd 0b000011#6
  | .sqrtS ft fd => mkR 0b010001#6 0b10000#5 ft 0b00000#5 fd 0b000100#6
  | .rsqrtS ft fs fd => mkR 0b010001#6 0b10000#5 ft fs fd 0b010110#6
  | .maxS ft fs fd => mkR 0b010001#6 0b10000#5 ft fs fd 0b101000#6
  | .minS ft fs fd => mkR 0b010001#6 0b10000#5 ft fs fd 0b101001#6
  | .mulaS ft fs => mkR 0b010001#6 0b10000#5 ft fs 0b00000#5 0b011010#6
  | .subaS ft fs => mkR 0b010001#6 0b10000#5 ft fs 0b00000#5 0b011001#6
  | .maddS ft fs fd => mkR 0b010001#6 0b10000#5 ft fs fd 0b011100#6
  | .msubS ft fs fd => mkR 0b010001#6 0b10000#5 ft fs fd 0b011101#6
  | .maddaS ft fs => mkR 0b010001#6 0b10000#5 ft fs 0b00000#5 0b011110#6
  | .msubaS ft fs => mkR 0b010001#6 0b10000#5 ft fs 0b00000#5 0b011111#6
  | .cvtSW fs fd => mkR 0b010001#6 0b10100#5 0b00000#5 fs fd 0b100000#6
  | .cvtWS fs fd => mkR 0b010001#6 0b10000#5 0b00000#5 fs fd 0b100100#6
  | .paddb rs rt rd => mkR 0b011100#6 rs rt rd 0b01000#5 0b001000#6
  | .paddh rs rt rd => mkR 0b011100#6 rs rt rd 0b00100#5 0b001000#6
  | .paddw rs rt rd => mkR 0b011100#6 rs rt rd 0b00000#5 0b001000#6
  | .paddsb rs rt rd => mkR 0b011100#6 rs rt rd 0b11000#5 0b001000#6
  | .paddsh rs rt rd => mkR 0b011100#6 rs rt rd 0b10100#5 0b001000#6
  | .paddsw rs rt rd => mkR 0b011100#6 rs rt rd 0b10000#5 0b001000#6
  | .paddub rs rt rd => mkR 0b011100#6 rs rt rd 0b11000#5 0b101000#6
  | .padduh rs rt rd => mkR 0b011100#6 rs rt rd 0b10100#5 0b101000#6
  | .padduw rs rt rd => mkR 0b011100#6 rs rt rd 0b10000#5 0b101000#6
  | .psubb rs rt rd => mkR 0b011100#6 rs rt rd 0b01001#5 0b001000#6
  | .psubh rs rt rd => mkR 0b011100#6 rs rt rd 0b00101#5 0b001000#6
  | .psubw rs rt rd => mkR 0b011100#6 rs rt rd 0b00001#5 0b001000#6
  | .psubsb rs rt rd => mkR 0b011100#6 rs rt rd 0b11001#5 0b001000#6
  | .psubsh rs rt rd => mkR 0b011100#6 rs rt rd 0b10101#5 0b001000#6
  | .psubsw rs rt rd => mkR 0b011100#6 rs rt rd 0b10001#5 0b001000#6
  | .psubub rs rt rd => mkR 0b011100#6 rs rt rd 0b11001#5 0b101000#6
  | .psubuh rs rt rd => mkR 0b011100#6 rs rt rd 0b10101#5 0b101000#6
  | .psubuw rs rt rd => mkR 0b011100#6 rs rt rd 0b10001#5 0b101000#6
  | .padsbh rs rt rd => mkR 0b011100#6 rs rt rd 0b00100#5 0b101000#6
  | .pabsh rt rd => mkR 0b011100#6 0b00000#5 rt rd 0b00101#5 0b101000#6
  | .pabsw rt rd => mkR 0b011100#6 0b00000#5 rt rd 0b00001#5 0b101000#6
  | .pmaxh rs rt rd => mkR 0b011100#6 rs rt rd 0b00111#5 0b001000#6
  | .pmaxw rs rt rd => mkR 0b011100#6 rs rt rd 0b00011#5 0b001000#6
  | .pminh rs rt rd => mkR 0b011100#6 rs rt rd 0b00111#5 0b101000#6
  | .pminw rs rt rd => mkR 0b011100#6 rs rt rd 0b00011#5 0b101000#6
  | .pceqb rs rt rd => mkR 0b011100#6 rs rt rd 0b01010#5 0b101000#6
  | .pceqh rs rt rd => mkR 0b011100#6 rs rt rd 0b00110#5 0b101000#6
  | .pceqw rs rt rd => mkR 0b011100#6 rs rt rd 0b00010#5 0b101000#6
  | .pcgtb rs rt rd => mkR 0b011100#6 rs rt rd 0b01010#5 0b001000#6
  | .pcgth rs rt rd => mkR 0b011100#6 rs rt rd 0b00110#5 0b001000#6
  | .pcgtw rs rt rd => mkR 0b011100#6 rs rt rd 0b00010#5 0b001000#6
  | .pand rs rt rd => mkR 0b011100#6 rs rt rd 0b10010#5 0b001001#6
  | .pxor rs rt rd => mkR 0b011100#6 rs rt rd 0b10011#5 0b001001#6
  | .pnor rs rt rd => mkR 0b011100#6 rs rt rd 0b10011#5 0b101001#6
  | .psllh rt rd sa => mkR 0b011100#6 0b00000#5 rt rd sa 0b110100#6
  | .psrlh rt rd sa => mkR 0b011100#6 0b00000#5 rt rd sa 0b110110#6
  | .psrah rt rd sa => mkR 0b011100#6 0b00000#5 rt rd sa 0b110111#6
  | .psllw rt rd sa => mkR 0b011100#6 0b00000#5 rt rd sa 0b111100#6
  | .psrlw rt rd sa => mkR 0b011100#6 0b00000#5 rt rd sa 0b111110#6
  | .psraw rt rd sa => mkR 0b011100#6 0b00000#5 rt rd sa 0b111111#6
  | .psllvw rs rt rd => mkR 0b011100#6 rs rt rd 0b00010#5 0b001001#6
  | .psrlvw rs rt rd => mkR 0b011100#6 rs rt rd 0b00011#5 0b001001#6
  | .psravw rs rt rd => mkR 0b011100#6 rs rt rd 0b00011#5 0b101001#6
  | .pmultw rs rt rd => mkR 0b011100#6 rs rt rd 0b01100#5 0b001001#6
  | .pmultuw rs rt rd => mkR 0b011100#6 rs rt rd 0b01100#5 0b101001#6
  | .pmaddw rs rt rd => mkR 0b011100#6 rs rt rd 0b00000#5 0b001001#6
  | .pmadduw rs rt rd => mkR 0b011100#6 rs rt rd 0b00000#5 0b101001#6
  | .pmsubw rs rt rd => mkR 0b011100#6 rs rt rd 0b00100#5 0b001001#6
  | .pmulth rs rt rd => mkR 0b011100#6 rs rt rd 0b11100#5 0b001001#6
  | .pmaddh rs rt rd => mkR 0b011100#6 rs rt rd 0b10000#5 0b001001#6
  | .pmsubh rs rt rd => mkR 0b011100#6 rs rt rd 0b10100#5 0b001001#6
  | .phmadh rs rt rd => mkR 0b011100#6 rs rt rd 0b10001#5 0b001001#6
  | .phmsbh rs rt rd => mkR 0b011100#6 rs rt rd 0b10101#5 0b001001#6
  | .pdivw rs rt => mkR 0b011100#6 rs rt 0b00000#5 0b01101#5 0b001001#6
  | .pdivuw rs rt => mkR 0b011100#6 rs rt 0b00000#5 0b01101#5 0b101001#6
  | .pdivbw rs rt => mkR 0b011100#6 rs rt 0b00000#5 0b11101#5 0b001001#6
  | .pmfhi rd => mkR 0b011100#6 0b00000#5 0b00000#5 rd 0b01000#5 0b001001#6
  | .pmflo rd => mkR 0b011100#6 0b00000#5 0b00000#5 rd 0b01001#5 0b001001#6
  | .pmthi rs => mkR 0b011100#6 rs 0b00000#5 0b00000#5 0b01000#5 0b101001#6
  | .pmtlo rs => mkR 0b011100#6 rs 0b00000#5 0b00000#5 0b01001#5 0b101001#6
  | .pmfhlLh rd => mkR 0b011100#6 0b00000#5 0b00000#5 rd 0b00011#5 0b110000#6
  | .pmfhlLw rd => mkR 0b011100#6 0b00000#5 0b00000#5 rd 0b00000#5 0b110000#6
  | .pmfhlSh rd => mkR 0b011100#6 0b00000#5 0b00000#5 rd 0b00100#5 0b110000#6
  | .pmfhlSlw rd => mkR 0b011100#6 0b00000#5 0b00000#5 rd 0b00010#5 0b110000#6
  | .pmfhlUw rd => mkR 0b011100#6 0b00000#5 0b00000#5 rd 0b00001#5 0b110000#6
  | .pmthlLw rs => mkR 0b011100#6 rs 0b00000#5 0b00000#5 0b00000#5 0b110001#6
  | .pextlb rs rt rd => mkR 0b011100#6 rs rt rd 0b11010#5 0b001000#6
  | .pextlh rs rt rd => mkR 0b011100#6 rs rt rd 0b10110#5 0b001000#6
  | .pextlw rs rt rd => mkR 0b011100#6 rs rt rd 0b10010#5 0b001000#6
  | .pextub rs rt rd => mkR 0b011100#6 rs rt rd 0b11010#5 0b101000#6
  | .pextuh rs rt rd => mkR 0b011100#6 rs rt rd 0b10110#5 0b101000#6
  | .pextuw rs rt rd => mkR 0b011100#6 rs rt rd 0b10010#5 0b101000#6
  | .pext5 rt rd => mkR 0b011100#6 0b00000#5 rt rd 0b11110#5 0b001000#6
  | .ppac5 rt rd => mkR 0b011100#6 0b00000#5 rt rd 0b11111#5 0b001000#6
  | .ppacb rs rt rd => mkR 0b011100#6 rs rt rd 0b11011#5 0b001000#6
  | .ppach rs rt rd => mkR 0b011100#6 rs rt rd 0b10111#5 0b001000#6
  | .ppacw rs rt rd => mkR 0b011100#6 rs rt rd 0b10011#5 0b001000#6
  | .pcpyh rt rd => mkR 0b011100#6 0b00000#5 rt rd 0b11011#5 0b101001#6
  | .pcpyld rs rt rd => mkR 0b011100#6 rs rt rd 0b01110#5 0b001001#6
  | .pcpyud rs rt rd => mkR 0b011100#6 rs rt rd 0b01110#5 0b101001#6
  | .pexch rt rd => mkR 0b011100#6 0b00000#5 rt rd 0b11010#5 0b101001#6
  | .pexcw rt rd => mkR 0b011100#6 0b00000#5 rt rd 0b11110#5 0b101001#6
  | .pexeh rt rd => mkR 0b011100#6 0b00000#5 rt rd 0b11010#5 0b001001#6
  | .pexew rt rd => mkR 0b011100#6 0b00000#5 rt rd 0b11110#5 0b001001#6
  | .pinth rs rt rd => mkR 0b011100#6 rs rt rd 0b01010#5 0b001001#6
  | .pinteh rs rt rd => mkR 0b011100#6 rs rt rd 0b01010#5 0b101001#6
  | .prevh rt rd => mkR 0b011100#6 0b00000#5 rt rd 0b11011#5 0b001001#6
  | .prot3w rt rd => mkR 0b011100#6 0b00000#5 rt rd 0b11111#5 0b001001#6
  | .plzcw rs rd => mkR 0b011100#6 rs 0b00000#5 rd 0b00000#5 0b000100#6
  | .mfsa rd => mkR 0b000000#6 0b00000#5 0b00000#5 rd 0b00000#5 0b101000#6
  | .mtsa rs => mkR 0b000000#6 rs 0b00000#5 0b00000#5 0b00000#5 0b101001#6
  | .mtsab rs imm => mkI 0b000001#6 rs 0b11000#5 imm
  | .mtsah rs imm => mkI 0b000001#6 rs 0b11001#5 imm
  | .qfsrv rs rt rd => mkR 0b011100#6 rs rt rd 0b11011#5 0b101000#6

/-- The bytes of an instruction in memory, the lowest address first. -/
def encodeBytes (i : Instr) : List Byte := bytesOfWord (encode i)

end Sys2Proof
end

