-- ==== Sys2Proof/Machine/Fetch.lean ====
section
/-! DEFINITION. Fetching an instruction word (10_state.md R27, 20_memory.md R65, R78) and what a word that is no listed
instruction does (30_encoding.md R112, 60_exceptions.md R544, R545). -/

namespace Sys2Proof.Machine

/-- What a fetch answers. -/
inductive Fetched where
  /-- The word, and the state after it was read. -/
  | word (w : Word) (s : State)
  /-- The fetch raises. -/
  | raises (e : Exc)
  /-- The fetch meets an unpredictable situation. -/
  | stops (f : Fault)
  deriving DecidableEq, Repr

/-- Whether a store of the run has written one of the `n` bytes at `a`. -/
def anyStored (l : List Nat) (a : Addr) : Nat → Bool
  | 0 => false
  | n + 1 => anyStored l a n || l.contains (byteAddr a n)

/-- A word that was read, unless a store of the run has written one of its bytes (20_memory.md R78). -/
def fetched (s : State) (q : Quad) (t : State) : Fetched :=
  if anyStored s.stored s.pc 4 then .stops .fetchAfterStore else .word (q.setWidth 32) t

/-- `Fetch(pc)` with its checks: alignment, segment, MemMap, then fetch_after_store (60_exceptions.md R551, 20_memory.md R78). A
device answers with a draw. -/
def fetch (s : State) : Fetched :=
  match s.checkAccess .fetch s.pc s.pc 4 4 with
  | .raises e => .raises e
  | .stops f => .stops f
  | .ram => fetched s (s.mem.readBytes s.pc 4) s
  | .device => fetched s (s.deviceRead s.pc 4) { s with draws := s.draws + 1 }

/-- A word that no listed instruction has: the usability test of its coprocessor comes first (60_exceptions.md R545). -/
def withCopOf (w : Word) (s : State) (k : Result) : Result :=
  if opOf w = 0b010000#6 then withCop0 s k else if opOf w = 0b010001#6 then withCop1 s k else k

/-- What executing a word that does not decode does. -/
def undecodable (e : DecodeError) (w : Word) (s : State) : Result :=
  match e with
  | .reserved => withCopOf w s (raise .reservedInstruction s)
  | .truncated => raise .reservedInstruction s
  | .coprocessor2 => if s.cop2Usable then .refused .coprocessor2 else raise (.coprocessorUnusable 2) s
  | .unlisted name => withCopOf w s (.refused (.unlistedInstruction name))

/-- Memory and stored addresses after four bytes are placed at `a` from outside the machine: they are not stores of the run
(log entry 3). -/
def State.placeWord (s : State) (a : Addr) (w : Word) : State :=
  { s with
    mem := s.mem.writeBytes a (w.setWidth 128) 4
    stored := s.stored.filter fun b =>
      b != byteAddr a 0 && b != byteAddr a 1 && b != byteAddr a 2 && b != byteAddr a 3 }

end Sys2Proof.Machine
end

