-- ==== Sys2Proof/Machine/Step.lean ====
section
/-! DEFINITION. One step of the processor (10_state.md R27). It is marked noncomputable only because the decoder is; the kernel
evaluates it. -/

namespace Sys2Proof.Machine

/-- Fetch, decode and execute the instruction at `pc`. -/
noncomputable def runInstruction (s : State) : Result :=
  match fetch s with
  | .raises e => raise e s
  | .stops f => .fault f
  | .word w t =>
    match decode w with
    | .ok i => exec i t
    | .error e => undecodable e w t

/-- One step: the inputs are sampled; then an event is taken, or the instruction at `pc` runs (60_exceptions.md R551). -/
noncomputable def step (s : State) : Host.Outcome State Fault Refusal :=
  match eventTaken s.tick s.sample with
  | some t => .next t
  | none => runInstruction s.sample

/-- `s` with the instruction whose bits are `w` at `pc`, where the next step fetches it (log entry 3). -/
def State.withFetchWord (s : State) (nbits w : Nat) : State := s.placeWord s.pc (BitVec.ofNat 32 (w % 2 ^ nbits))

end Sys2Proof.Machine
end

