-- ==== Sys2Proof/Machine/Launch.lean ====
section
/-! DEFINITION. Launching a program instead of booting (70_reset_and_hazards.md R583, 60_exceptions.md R563), the environment that
serves its system calls (92_eei_decisions.md D10), and when its run ends (D31); log entries 35, 36. -/

namespace Sys2Proof.Machine

/-! ## The start of a run -/

/-- The default Status of a launch: CU[0], CU[1] (bits 28, 29) and BEV (bit 22) are 1, KSU, EXL, ERL, IE and EIE are 0
(60_exceptions.md R563). -/
def launchStatus : Word := 0x30400000

/-- The parameter `LaunchState` (00_scope.md R6, 70_reset_and_hazards.md R583). It can give a value to every register of
10_state.md R54; one that it does not name holds its value after reset (log entries 1, 35). -/
structure LaunchState where
  /-- The entry pc. -/
  entry : Addr
  /-- The program and its data. -/
  memory : Memory
  /-- The general registers that hold a value at entry. -/
  gpr : List (Reg × Quad) := []
  /-- The floating-point registers that hold a value at entry. -/
  fpr : List (Reg × Word) := []
  /-- HI, with HI1. -/
  hi : Quad := State.reset.hi
  /-- LO, with LO1. -/
  lo : Quad := State.reset.lo
  /-- SA as a byte count. -/
  saBytes : BitVec 4 := State.reset.saBytes
  /-- ACC. -/
  acc : Word := State.reset.acc
  /-- FCR31. -/
  fcr31 : Word := State.reset.fcr31
  /-- The coprocessor-0 registers, with Status, and with it the mode. -/
  cop0 : Cop0 := { State.reset.cop0 with status := launchStatus }
  /-- The breakpoint registers. -/
  dbg : DebugRegs := State.reset.dbg
  /-- The performance registers. -/
  perf : PerfRegs := State.reset.perf
  /-- The platform's map. -/
  memMap : List MemRegion := []
  /-- The inputs to come. -/
  env : List EnvTick := []
  deriving DecidableEq, Repr

/-- The coprocessor-0 registers at entry: the fields that do not exist are 0 (10_state.md R41, R42, R47). -/
def LaunchState.cop0At (l : LaunchState) : Cop0 :=
  { l.cop0 with
    status := l.cop0.status &&& statusMask
    cause := l.cop0.cause &&& causeMask
    config := l.cop0.config &&& configMask }

/-- The machine at the entry, before the general and floating-point registers that the launch names are written. -/
def LaunchState.bare (l : LaunchState) : State :=
  { State.reset with
    pc := l.entry
    npc := l.entry + 4
    bd := false
    hi := l.hi
    lo := l.lo
    saBytes := l.saBytes
    acc := l.acc
    fcr31 := fcr31View l.fcr31
    cop0 := l.cop0At
    dbg := l.dbg
    perf := l.perf
    mem := l.memory
    memMap := l.memMap
    env := l.env }

/-- The machine at the entry of a launched program. -/
def LaunchState.state (l : LaunchState) : State :=
  l.fpr.foldl (fun s r => s.writeF r.1 r.2) (l.gpr.foldl (fun s r => s.writeQ r.1 r.2) l.bare)

/-- The launch value of `$ra`. -/
def LaunchState.returnAddress (l : LaunchState) : Addr := l.state.readW 31

/-! ## The environment of a run -/

/-- The instruction that the next step runs, and the state it runs at, if the step runs one. -/
noncomputable def nextInstr (s : State) : Option (Instr × State) :=
  match eventTaken s.tick s.sample with
  | some _ => none
  | none =>
    match fetch s.sample with
    | .word w t =>
      match decode w with
      | .ok i => some (i, t)
      | .error _ => none
    | .raises _ => none
    | .stops _ => none

/-- A call on the environment: a SYSCALL or BREAK that is about to run, with its code field (00_scope.md R6, `SyscallEnv`). -/
inductive EnvCall where
  /-- SYSCALL. -/
  | systemCall (code : BitVec 20)
  /-- BREAK. -/
  | breakpoint (code : BitVec 20)
  deriving DecidableEq, Repr

/-- The call that an instruction makes, if it makes one. -/
noncomputable def callOf (i : Instr) : Option EnvCall :=
  match i with
  | .syscall code => some (.systemCall code)
  | .breakI code => some (.breakpoint code)
  | _ => none

/-- What the environment does at a call (92_eei_decisions.md D10, 60_exceptions.md R557). -/
inductive EnvAnswer where
  /-- The run ends. -/
  | endOfRun
  /-- The environment serves the call, and the run goes on from this state. -/
  | resume (t : State)
  /-- The environment leaves the call to the machine, which takes the exception. -/
  | trap
  deriving DecidableEq, Repr

/-- The parameter `SyscallEnv`: a relation from the call and the machine state at it to what the environment may do
(92_eei_decisions.md D10). -/
abbrev SyscallEnv := EnvCall → State → EnvAnswer → Prop

/-- The default environment: a SYSCALL ends the run (92_eei_decisions.md D10, D31), a BREAK is left to the machine (log entry
36). -/
def SyscallEnv.default : SyscallEnv
  | .systemCall _, _, a => a = .endOfRun
  | .breakpoint _, _, a => a = .trap

/-- The answers of one run: what the environment does at each call. The number tells the calls of a run apart, so that an
environment may answer differently at equal states. -/
abbrev Answers := Nat → EnvCall → State → EnvAnswer

/-- Every answer is one that the environment may give. -/
def SyscallEnv.Allows (e : SyscallEnv) (f : Answers) : Prop := ∀ k c s, e c s (f k c s)

/-- The only answers of the default environment. -/
def defaultAnswers : Answers
  | _, .systemCall _, _ => .endOfRun
  | _, .breakpoint _, _ => .trap

/-! ## A run and its end -/

/-- Why a launched run ends (92_eei_decisions.md D31). -/
inductive RunEnd where
  /-- The environment has ended it at a SYSCALL or BREAK. -/
  | environment
  /-- `jr $ra` has gone to the launch value of `$ra`. -/
  | returned
  /-- The machine has stopped: a fault or a refusal. -/
  | stopped
  deriving DecidableEq, Repr

/-- One step of the machine as a step of a run. -/
noncomputable def machineStep (s : State) : Except RunEnd State :=
  match step s with
  | .next t => .ok t
  | .fault _ => .error .stopped
  | .refused _ => .error .stopped

/-- What an answer makes of a call at `s`. -/
noncomputable def served (s : State) (a : EnvAnswer) : Except RunEnd State :=
  match a with
  | .endOfRun => .error .environment
  | .resume t => .ok t
  | .trap => machineStep s

/-- One step of a launched run: a call is handed to the environment, everything else is a step of the machine. -/
noncomputable def launchedStep (answer : EnvCall → State → EnvAnswer) (s : State) : Except RunEnd State :=
  match nextInstr s with
  | some (i, t) =>
    match callOf i with
    | some c => served s (answer c t)
    | none => machineStep s
  | none => machineStep s

/-- Whether the next step runs a `jr $ra` to the launch value of `$ra`. -/
noncomputable def LaunchState.returns (l : LaunchState) (s : State) : Bool :=
  match nextInstr s with
  | some (.jr rs, _) => decide (rs = 31) && decide (s.readW 31 = l.returnAddress)
  | _ => false

/-- A run of at most `n` steps from `s`, with the answers of its environment: the last state, and why the run ended, if it did.
`back` says that a `jr $ra` to the launch value has run and its delay slot is not past (log entry 35). -/
noncomputable def LaunchState.run (l : LaunchState) (f : Answers) : Nat → Bool → State → State × Option RunEnd
  | 0, _, s => (s, none)
  | n + 1, back, s =>
    if back && !s.bd && decide (s.pc = l.returnAddress) then (s, some .returned)
    else match launchedStep (f n) s with
      | .ok t => LaunchState.run l f n (l.returns s || (back && s.bd)) t
      | .error e => (s, some e)

end Sys2Proof.Machine
end

