-- ==== Sys2Proof/WellFormed.lean ====
section
/-! DEFINITION. Which terms of `Instr` are instructions: the only operand restriction of the opcode table that the field
widths do not carry is the register number of MFC0 and MTC0 (30_encoding.md R105). -/

namespace Sys2Proof

/-- The coprocessor-0 register numbers that MFC0 and MTC0 can name: 24 and 25 belong to the breakpoint and the
performance moves, whose words they would be (30_encoding.md R105, R107). -/
def cop0RegOk (rd : Reg) : Bool := rd != 24 && rd != 25

/-- A term that some word stands for. -/
def Instr.wellFormed : Instr → Bool
  | .mfc0 _ rd => cop0RegOk rd
  | .mtc0 _ rd => cop0RegOk rd
  | .add _ _ _ => true
  | .mult _ _ _ => true
  | .blez _ _ => true
  | .lb _ _ _ => true
  | .addu _ _ _ => true
  | .subu _ _ _ => true
  | .beq _ _ _ => true
  | .bne _ _ _ => true
  | .mfhi _ => true
  | .mflo _ => true
  | .syscall _ => true
  | .sw _ _ _ => true
  | .jal _ => true
  | .lw _ _ _ => true
  | .jr _ => true
  | .div _ _ => true
  | .bltzal _ _ => true
  | .bgezal _ _ => true
  | .lui _ _ => true
  | .and _ _ _ => true
  | .addi _ _ _ => true
  | .addiu _ _ _ => true
  | .sub _ _ _ => true
  | .andi _ _ _ => true
  | .ori _ _ _ => true
  | .or _ _ _ => true
  | .xor _ _ _ => true
  | .xori _ _ _ => true
  | .nor _ _ _ => true
  | .slt _ _ _ => true
  | .slti _ _ _ => true
  | .sltu _ _ _ => true
  | .sltiu _ _ _ => true
  | .movn _ _ _ => true
  | .movz _ _ _ => true
  | .dadd _ _ _ => true
  | .daddi _ _ _ => true
  | .daddiu _ _ _ => true
  | .daddu _ _ _ => true
  | .dsub _ _ _ => true
  | .dsubu _ _ _ => true
  | .sll _ _ _ => true
  | .srl _ _ _ => true
  | .sra _ _ _ => true
  | .sllv _ _ _ => true
  | .srlv _ _ _ => true
  | .srav _ _ _ => true
  | .dsll _ _ _ => true
  | .dsrl _ _ _ => true
  | .dsra _ _ _ => true
  | .dsll32 _ _ _ => true
  | .dsrl32 _ _ _ => true
  | .dsra32 _ _ _ => true
  | .dsllv _ _ _ => true
  | .dsrlv _ _ _ => true
  | .dsrav _ _ _ => true
  | .multu _ _ _ => true
  | .divu _ _ => true
  | .mult1 _ _ _ => true
  | .multu1 _ _ _ => true
  | .div1 _ _ => true
  | .divu1 _ _ => true
  | .madd _ _ _ => true
  | .maddu _ _ _ => true
  | .madd1 _ _ _ => true
  | .maddu1 _ _ _ => true
  | .mthi _ => true
  | .mtlo _ => true
  | .mfhi1 _ => true
  | .mflo1 _ => true
  | .mthi1 _ => true
  | .mtlo1 _ => true
  | .beql _ _ _ => true
  | .bnel _ _ _ => true
  | .bgez _ _ => true
  | .bgezl _ _ => true
  | .bgezall _ _ => true
  | .bgtz _ _ => true
  | .bgtzl _ _ => true
  | .blezl _ _ => true
  | .bltz _ _ => true
  | .bltzl _ _ => true
  | .bltzall _ _ => true
  | .j _ => true
  | .jalr _ _ => true
  | .lbu _ _ _ => true
  | .lh _ _ _ => true
  | .lhu _ _ _ => true
  | .lwu _ _ _ => true
  | .ld _ _ _ => true
  | .lq _ _ _ => true
  | .lwl _ _ _ => true
  | .lwr _ _ _ => true
  | .ldl _ _ _ => true
  | .ldr _ _ _ => true
  | .sb _ _ _ => true
  | .sh _ _ _ => true
  | .sd _ _ _ => true
  | .sq _ _ _ => true
  | .swl _ _ _ => true
  | .swr _ _ _ => true
  | .sdl _ _ _ => true
  | .sdr _ _ _ => true
  | .pref _ _ _ => true
  | .sync _ => true
  | .breakI _ => true
  | .tge _ _ _ => true
  | .tgeu _ _ _ => true
  | .tlt _ _ _ => true
  | .tltu _ _ _ => true
  | .teq _ _ _ => true
  | .tne _ _ _ => true
  | .tgei _ _ => true
  | .tgeiu _ _ => true
  | .tlti _ _ => true
  | .tltiu _ _ => true
  | .teqi _ _ => true
  | .tnei _ _ => true
  | .eret => true
  | .ei => true
  | .di => true
  | .bc0f _ => true
  | .bc0fl _ => true
  | .bc0t _ => true
  | .bc0tl _ => true
  | .mfbpc _ => true
  | .mfiab _ => true
  | .mfiabm _ => true
  | .mfdab _ => true
  | .mfdabm _ => true
  | .mfdvb _ => true
  | .mfdvbm _ => true
  | .mtbpc _ => true
  | .mtiab _ => true
  | .mtdab _ => true
  | .mtdabm _ => true
  | .mtdvb _ => true
  | .mtdvbm _ => true
  | .mfpc _ _ => true
  | .mfps _ _ => true
  | .mtpc _ _ => true
  | .mtps _ _ => true
  | .mfc1 _ _ => true
  | .mtc1 _ _ => true
  | .cfc1 _ _ => true
  | .ctc1 _ _ => true
  | .lwc1 _ _ _ => true
  | .swc1 _ _ _ => true
  | .movS _ _ => true
  | .absS _ _ => true
  | .negS _ _ => true
  | .cFS _ _ => true
  | .cEqS _ _ => true
  | .cLtS _ _ => true
  | .cLeS _ _ => true
  | .bc1f _ => true
  | .bc1fl _ => true
  | .bc1t _ => true
  | .bc1tl _ => true
  | .addS _ _ _ => true
  | .subS _ _ _ => true
  | .mulS _ _ _ => true
  | .divS _ _ _ => true
  | .sqrtS _ _ => true
  | .rsqrtS _ _ _ => true
  | .maxS _ _ _ => true
  | .minS _ _ _ => true
  | .mulaS _ _ => true
  | .subaS _ _ => true
  | .maddS _ _ _ => true
  | .msubS _ _ _ => true
  | .maddaS _ _ => true
  | .msubaS _ _ => true
  | .cvtSW _ _ => true
  | .cvtWS _ _ => true
  | .paddb _ _ _ => true
  | .paddh _ _ _ => true
  | .paddw _ _ _ => true
  | .paddsb _ _ _ => true
  | .paddsh _ _ _ => true
  | .paddsw _ _ _ => true
  | .paddub _ _ _ => true
  | .padduh _ _ _ => true
  | .padduw _ _ _ => true
  | .psubb _ _ _ => true
  | .psubh _ _ _ => true
  | .psubw _ _ _ => true
  | .psubsb _ _ _ => true
  | .psubsh _ _ _ => true
  | .psubsw _ _ _ => true
  | .psubub _ _ _ => true
  | .psubuh _ _ _ => true
  | .psubuw _ _ _ => true
  | .padsbh _ _ _ => true
  | .pabsh _ _ => true
  | .pabsw _ _ => true
  | .pmaxh _ _ _ => true
  | .pmaxw _ _ _ => true
  | .pminh _ _ _ => true
  | .pminw _ _ _ => true
  | .pceqb _ _ _ => true
  | .pceqh _ _ _ => true
  | .pceqw _ _ _ => true
  | .pcgtb _ _ _ => true
  | .pcgth _ _ _ => true
  | .pcgtw _ _ _ => true
  | .pand _ _ _ => true
  | .pxor _ _ _ => true
  | .pnor _ _ _ => true
  | .psllh _ _ _ => true
  | .psrlh _ _ _ => true
  | .psrah _ _ _ => true
  | .psllw _ _ _ => true
  | .psrlw _ _ _ => true
  | .psraw _ _ _ => true
  | .psllvw _ _ _ => true
  | .psrlvw _ _ _ => true
  | .psravw _ _ _ => true
  | .pmultw _ _ _ => true
  | .pmultuw _ _ _ => true
  | .pmaddw _ _ _ => true
  | .pmadduw _ _ _ => true
  | .pmsubw _ _ _ => true
  | .pmulth _ _ _ => true
  | .pmaddh _ _ _ => true
  | .pmsubh _ _ _ => true
  | .phmadh _ _ _ => true
  | .phmsbh _ _ _ => true
  | .pdivw _ _ => true
  | .pdivuw _ _ => true
  | .pdivbw _ _ => true
  | .pmfhi _ => true
  | .pmflo _ => true
  | .pmthi _ => true
  | .pmtlo _ => true
  | .pmfhlLh _ => true
  | .pmfhlLw _ => true
  | .pmfhlSh _ => true
  | .pmfhlSlw _ => true
  | .pmfhlUw _ => true
  | .pmthlLw _ => true
  | .pextlb _ _ _ => true
  | .pextlh _ _ _ => true
  | .pextlw _ _ _ => true
  | .pextub _ _ _ => true
  | .pextuh _ _ _ => true
  | .pextuw _ _ _ => true
  | .pext5 _ _ => true
  | .ppac5 _ _ => true
  | .ppacb _ _ _ => true
  | .ppach _ _ _ => true
  | .ppacw _ _ _ => true
  | .pcpyh _ _ => true
  | .pcpyld _ _ _ => true
  | .pcpyud _ _ _ => true
  | .pexch _ _ => true
  | .pexcw _ _ => true
  | .pexeh _ _ => true
  | .pexew _ _ => true
  | .pinth _ _ _ => true
  | .pinteh _ _ _ => true
  | .prevh _ _ => true
  | .prot3w _ _ => true
  | .plzcw _ _ => true
  | .mfsa _ => true
  | .mtsa _ => true
  | .mtsab _ _ => true
  | .mtsah _ _ => true
  | .qfsrv _ _ _ => true

end Sys2Proof
end

