-- ==== Sys2Proof/Safety.lean ====
section
/-! DEFINITION. The terms in which statements about the machine are made: the pieces of state an instruction can change and the
frame that leaves the others alone, what it means that an instruction completes, raises or transfers control, and the invariant
that every step keeps. -/

namespace Sys2Proof.Machine

/-! ## Pieces of state -/

/-- The pieces of state a frame speaks of: the halves of the 128-bit registers, every other register, every byte of memory,
every mark of a stored byte, the lines, the draws. The program counter, the next one and the delay-slot flag are stated apart
from the frame. -/
inductive View where
  /-- `x[r][63:0]`. -/
  | gprLow (r : Reg)
  /-- `x[r][127:64]`. -/
  | gprHigh (r : Reg)
  /-- `HI[63:0]`. -/
  | hiLow
  /-- `HI[127:64]`, HI1. -/
  | hiHigh
  /-- `LO[63:0]`. -/
  | loLow
  /-- `LO[127:64]`, LO1. -/
  | loHigh
  /-- SA. -/
  | sa
  /-- `f[r]`. -/
  | fpr (r : Reg)
  /-- ACC. -/
  | acc
  /-- FCR31. -/
  | fcr31
  /-- Status. -/
  | status
  /-- Cause. -/
  | cause
  /-- EPC. -/
  | epc
  /-- ErrorEPC. -/
  | errorEpc
  /-- BadVAddr. -/
  | badVAddr
  /-- BadPAddr. -/
  | badPAddr
  /-- The value last written to Count. -/
  | count
  /-- Compare. -/
  | compare
  /-- Config. -/
  | config
  /-- BPC. -/
  | bpc
  /-- IAB. -/
  | iab
  /-- IABM. -/
  | iabm
  /-- DAB. -/
  | dab
  /-- DABM. -/
  | dabm
  /-- DVB. -/
  | dvb
  /-- DVBM. -/
  | dvbm
  /-- PCCR. -/
  | pccr
  /-- PCR0. -/
  | pcr0
  /-- PCR1. -/
  | pcr1
  /-- The byte of memory at an address. -/
  | byte (a : Nat)
  /-- Whether a store of the run has written an address. -/
  | stored (a : Nat)
  /-- Line Int0. -/
  | int0
  /-- Line Int1. -/
  | int1
  /-- How many free values have been drawn. -/
  | draws
  deriving DecidableEq, Repr

/-- The value of a piece of state, as a number. General registers are read through `State.readQ`, memory through
`Memory.read`. -/
def View.get (s : State) : View → Nat
  | .gprLow r => (s.readD r).toNat
  | .gprHigh r => (highD (s.readQ r)).toNat
  | .hiLow => (lowD s.hi).toNat
  | .hiHigh => (highD s.hi).toNat
  | .loLow => (lowD s.lo).toNat
  | .loHigh => (highD s.lo).toNat
  | .sa => s.saBytes.toNat
  | .fpr r => (s.readF r).toNat
  | .acc => s.acc.toNat
  | .fcr31 => s.fcr31.toNat
  | .status => s.cop0.status.toNat
  | .cause => s.cop0.cause.toNat
  | .epc => s.cop0.epc.toNat
  | .errorEpc => s.cop0.errorEpc.toNat
  | .badVAddr => s.cop0.badVAddr.toNat
  | .badPAddr => s.cop0.badPAddr.toNat
  | .count => s.cop0.count.toNat
  | .compare => s.cop0.compare.toNat
  | .config => s.cop0.config.toNat
  | .bpc => s.dbg.bpc.toNat
  | .iab => s.dbg.iab.toNat
  | .iabm => s.dbg.iabm.toNat
  | .dab => s.dbg.dab.toNat
  | .dabm => s.dbg.dabm.toNat
  | .dvb => s.dbg.dvb.toNat
  | .dvbm => s.dbg.dvbm.toNat
  | .pccr => s.perf.pccr.toNat
  | .pcr0 => s.perf.pcr0.toNat
  | .pcr1 => s.perf.pcr1.toNat
  | .byte a => (Memory.read s.mem a).toNat
  | .stored a => (s.stored.contains a).toNat
  | .int0 => s.int0.toNat
  | .int1 => s.int1.toNat
  | .draws => s.draws

/-- From `s` to `t` nothing has changed but, perhaps, the pieces of `changed` and the sequencing. -/
structure Frame (s t : State) (changed : View → Prop) : Prop where
  /-- Every other piece of state has the value it had. -/
  views : ∀ v, ¬ changed v → View.get t v = View.get s v
  /-- The platform's map is the same. -/
  memMap : t.memMap = s.memMap
  /-- The inputs to come are the same. -/
  env : t.env = s.env

/-! ## Completion -/

/-- The sequencing of an instruction that transfers no control (10_state.md R27). -/
structure Sequenced (s t : State) : Prop where
  /-- The next instruction is the one at `npc`. -/
  pc : t.pc = s.npc
  /-- The one after it follows in memory. -/
  npc : t.npc = s.npc + 4
  /-- It stands in no delay slot. -/
  bd : t.bd = false

/-- The instruction answers a next state of which `post` holds; nothing but `changed` has changed; control goes on. -/
def CompletesIn (i : Instr) (s : State) (changed : View → Prop) (post : State → Prop) : Prop :=
  ∃ t, exec i s = .next t ∧ post t ∧ Frame s t changed ∧ Sequenced s t

/-- `CompletesIn` for a list of pieces of state. -/
def Completes (i : Instr) (s : State) (changed : List View) (post : State → Prop) : Prop :=
  CompletesIn i s (· ∈ changed) post

/-- What a general register reads after `v` was written to it: register 0 stays 0 (10_state.md R21). -/
def afterWrite {n : Nat} (rd : Reg) (v : BitVec n) : BitVec n := if rd = 0 then 0 else v

/-- The instruction's one effect is `x[rd][63:0] <- v`. -/
def WritesLow (i : Instr) (s : State) (rd : Reg) (v : Dword) : Prop :=
  Completes i s [.gprLow rd] fun t => t.readD rd = afterWrite rd v

/-- The instruction's one effect is to write all 128 bits of `x[rd]`, lane `k` of width `w` becoming `f k`. -/
def WritesLanes (w n : Nat) (i : Instr) (s : State) (rd : Reg) (f : Nat → BitVec w) : Prop :=
  Completes i s [.gprLow rd, .gprHigh rd] fun t => ∀ k, k < n → lane w (t.readQ rd) k = afterWrite rd (f k)

/-- The instruction's one effect is to write `x[rd][63:0]`, bit `k` becoming `f k`. -/
def WritesLowBits (i : Instr) (s : State) (rd : Reg) (f : Nat → Bool) : Prop :=
  Completes i s [.gprLow rd] fun t => ∀ k, k < 64 → (t.readD rd).getLsbD k = (decide (rd ≠ 0) && f k)

/-- The instruction has no effect but that control goes on. -/
def OnlyAdvances (i : Instr) (s : State) : Prop := Completes i s [] fun _ => True

/-- `sext_64(trunc_32(i))`. -/
def signedWord (i : Int) : Dword := BitVec.ofInt 64 (i.bmod (2 ^ 32))

/-- `i` clamped to [lo, hi] (00_scope.md R16). -/
def clamp (lo hi i : Int) : Int := if i < lo then lo else if hi < i then hi else i

/-- The instruction writes the 64-bit number `p` as two sign-extended words, the low one to LO and `rd`, the high one to HI; with
`upper`, to bits 127:64 of LO and HI, pipeline 1 (10_state.md R31). -/
def Multiplies (i : Instr) (s : State) (upper : Bool) (rd : Reg) (p : Int) : Prop :=
  if upper then
    Completes i s [.gprLow rd, .hiHigh, .loHigh] fun t =>
      highD t.lo = signedWord p ∧ highD t.hi = signedWord (p / 2 ^ 32) ∧ t.readD rd = afterWrite rd (signedWord p)
  else
    Completes i s [.gprLow rd, .hiLow, .loLow] fun t =>
      lowD t.lo = signedWord p ∧ lowD t.hi = signedWord (p / 2 ^ 32) ∧ t.readD rd = afterWrite rd (signedWord p)

/-- The instruction writes a quotient to LO and a remainder to HI, both cut to 32 bits and sign-extended; with `upper`, to bits
127:64. -/
def Divides (i : Instr) (s : State) (upper : Bool) (q r : Int) : Prop :=
  if upper then
    Completes i s [.hiHigh, .loHigh] fun t => highD t.lo = signedWord q ∧ highD t.hi = signedWord r
  else
    Completes i s [.hiLow, .loLow] fun t => lowD t.lo = signedWord q ∧ lowD t.hi = signedWord r

/-- The 64-bit number `HI.W[k] ‖ LO.W[k]`, signed. -/
def accumulated (s : State) (k : Nat) : Int := (lane 32 s.hi k).toInt * 2 ^ 32 + (lane 32 s.lo k).toNat

/-- The value of the `n` bytes at `a`, the byte at `(a + k) mod 2^32` weighing 2^(8k) (20_memory.md R63). -/
def littleEndian (m : Memory) (a : Addr) : Nat → Nat
  | 0 => 0
  | n + 1 => littleEndian m a n + (Memory.read m ((a.toNat + n) % 2 ^ 32)).toNat * 2 ^ (8 * n)

/-- A byte of memory or its mark, among the `n` bytes at `a`. -/
def InBytes (a : Addr) (n : Nat) (v : View) : Prop :=
  ∃ k, k < n ∧ (v = .byte ((a.toNat + k) % 2 ^ 32) ∨ v = .stored ((a.toNat + k) % 2 ^ 32))

/-- The mark of a byte, among the `n` bytes at `a`. -/
def InMarks (a : Addr) (n : Nat) (v : View) : Prop := ∃ k, k < n ∧ v = .stored ((a.toNat + k) % 2 ^ 32)

/-- `MemMap(a, n, kind)` is `c` (20_memory.md R70). -/
def MapGives (s : State) (kind : AccessKind) (a : Addr) (n : Nat) (c : RegionClass) : Prop :=
  accessClass s.memMap kind a n = c

/-- The instruction's one effect is to store byte `f k` at `(a + k) mod 2^32` for each `k` below `n`, and to mark those
addresses. -/
def Stores (i : Instr) (s : State) (a : Addr) (n : Nat) (f : Nat → Byte) : Prop :=
  CompletesIn i s (InBytes a n) fun t => ∀ k, k < n →
    Memory.read t.mem ((a.toNat + k) % 2 ^ 32) = f k ∧ (a.toNat + k) % 2 ^ 32 ∈ t.stored

/-- Byte `k` of a word or doubleword. -/
def byteOf {n : Nat} (v : BitVec n) (k : Nat) : Byte := v.extractLsb' (8 * k) 8

/-- The aligned block of `n` bytes that contains `a`, for `n` a power of 2. -/
def blockOf (a : Addr) (n : Nat) : Addr := BitVec.ofNat 32 (a.toNat / n * n)

/-- A load or a store in one of its forms: the instruction, the address that an address error reports, the first byte accessed,
how many bytes, and what the reported address must be a multiple of (45_load_store.md R270). -/
structure Access where
  /-- The instruction. -/
  instr : Instr
  /-- The address that an address error reports. -/
  reported : Addr
  /-- The first byte. -/
  start : Addr
  /-- How many bytes. -/
  bytes : Nat
  /-- The alignment. -/
  align : Nat

/-- The loads into a general register, at the effective address `ea`. -/
def loadForms (base rt : Reg) (offset : BitVec 16) (ea : Addr) : List Access :=
  [⟨.lb base rt offset, ea, ea, 1, 1⟩, ⟨.lbu base rt offset, ea, ea, 1, 1⟩, ⟨.lh base rt offset, ea, ea, 2, 2⟩,
   ⟨.lhu base rt offset, ea, ea, 2, 2⟩, ⟨.lw base rt offset, ea, ea, 4, 4⟩, ⟨.lwu base rt offset, ea, ea, 4, 4⟩,
   ⟨.ld base rt offset, ea, ea, 8, 8⟩, ⟨.lq base rt offset, blockOf ea 16, blockOf ea 16, 16, 1⟩,
   ⟨.lwl base rt offset, ea, blockOf ea 4, ea.toNat % 4 + 1, 1⟩, ⟨.lwr base rt offset, ea, ea, 4 - ea.toNat % 4, 1⟩,
   ⟨.ldl base rt offset, ea, blockOf ea 8, ea.toNat % 8 + 1, 1⟩, ⟨.ldr base rt offset, ea, ea, 8 - ea.toNat % 8, 1⟩]

/-- The stores of a general register, at the effective address `ea`. -/
def storeForms (base rt : Reg) (offset : BitVec 16) (ea : Addr) : List Access :=
  [⟨.sb base rt offset, ea, ea, 1, 1⟩, ⟨.sh base rt offset, ea, ea, 2, 2⟩, ⟨.sw base rt offset, ea, ea, 4, 4⟩,
   ⟨.sd base rt offset, ea, ea, 8, 8⟩, ⟨.sq base rt offset, blockOf ea 16, blockOf ea 16, 16, 1⟩,
   ⟨.swl base rt offset, ea, blockOf ea 4, ea.toNat % 4 + 1, 1⟩, ⟨.swr base rt offset, ea, ea, 4 - ea.toNat % 4, 1⟩,
   ⟨.sdl base rt offset, ea, blockOf ea 8, ea.toNat % 8 + 1, 1⟩, ⟨.sdr base rt offset, ea, ea, 8 - ea.toNat % 8, 1⟩]

/-! ## Floating-point flags (47_fpu.md R351) -/

/-- `setflags({O, U}, fl)` from `s` to `t`: O is bit 15 of FCR31, U bit 14, SO bit 4, SU bit 3. -/
def FlagsOU (s t : State) (fl : FpFlags) : Prop :=
  ∀ k, t.fcr31.getLsbD k =
    if k = 15 then fl.overflow
    else if k = 14 then fl.underflow
    else if k = 4 then s.fcr31.getLsbD 4 || fl.overflow
    else if k = 3 then s.fcr31.getLsbD 3 || fl.underflow
    else s.fcr31.getLsbD k

/-- `setflags({I, D}, fl)` from `s` to `t`: I is bit 17 of FCR31, D bit 16, SI bit 6, SD bit 5. -/
def FlagsID (s t : State) (fl : FpFlags) : Prop :=
  ∀ k, t.fcr31.getLsbD k =
    if k = 17 then fl.invalid
    else if k = 16 then fl.divZero
    else if k = 6 then s.fcr31.getLsbD 6 || fl.invalid
    else if k = 5 then s.fcr31.getLsbD 5 || fl.divZero
    else s.fcr31.getLsbD k

/-- The instruction writes `r.1` to `f[fd]` and sets the flags O and U from `r.2`. -/
def FloatsOU (i : Instr) (s : State) (fd : Reg) (r : Word × FpFlags) : Prop :=
  Completes i s [.fpr fd, .fcr31] fun t => t.readF fd = r.1 ∧ FlagsOU s t r.2

/-- The instruction writes `r.1` to `f[fd]` and sets the flags I and D from `r.2`. -/
def FloatsID (i : Instr) (s : State) (fd : Reg) (r : Word × FpFlags) : Prop :=
  Completes i s [.fpr fd, .fcr31] fun t => t.readF fd = r.1 ∧ FlagsID s t r.2

/-- The instruction writes `r.1` to ACC and sets the flags O and U from `r.2`. -/
def Accumulates (i : Instr) (s : State) (r : Word × FpFlags) : Prop :=
  Completes i s [.acc, .fcr31] fun t => t.acc = r.1 ∧ FlagsOU s t r.2

/-- The instruction writes `c` to the condition bit C, bit 23 of FCR31. -/
def Compares (i : Instr) (s : State) (c : Bool) : Prop :=
  Completes i s [.fcr31] fun t => ∀ k, t.fcr31.getLsbD k = if k = 23 then c else s.fcr31.getLsbD k

/-! ## Parallel instructions -/

/-- The instruction writes every lane of `x[rd]` from a lane of `x[rs]` or `x[rt]`: lane `k` from the source and the lane number
at place `k` of the list. -/
def Shuffles (w n : Nat) (i : Instr) (s : State) (rd : Reg) (sources : List (Reg × Nat)) : Prop :=
  sources.length = n ∧
    WritesLanes w n i s rd fun k => lane w (s.readQ (sources.getD k (0, 0)).1) (sources.getD k (0, 0)).2

/-- The instruction writes two 64-bit numbers: each whole to its doubleword of `rd`, as two sign-extended words to the same
doublewords of LO and HI (49_parallel_muldiv_pack.md R461). -/
def MultipliesPair (i : Instr) (s : State) (rd : Reg) (p0 p1 : Int) : Prop :=
  Completes i s [.gprLow rd, .gprHigh rd, .hiLow, .hiHigh, .loLow, .loHigh] fun t =>
    lowD t.lo = signedWord p0 ∧ lowD t.hi = signedWord (p0 / 2 ^ 32) ∧
    highD t.lo = signedWord p1 ∧ highD t.hi = signedWord (p1 / 2 ^ 32) ∧
    t.readD rd = afterWrite rd (BitVec.ofInt 64 p0) ∧ highD (t.readQ rd) = afterWrite rd (BitVec.ofInt 64 p1)

/-- The instruction writes eight 32-bit numbers to the word lanes of LO and HI, in the order of 49_parallel_muldiv_pack.md R460,
and those of even number to `rd`. -/
def FillsSlots (i : Instr) (s : State) (rd : Reg) (p : Nat → Int) : Prop :=
  Completes i s [.gprLow rd, .gprHigh rd, .hiLow, .hiHigh, .loLow, .loHigh] fun t =>
    lane 32 t.lo 0 = BitVec.ofInt 32 (p 0) ∧ lane 32 t.lo 1 = BitVec.ofInt 32 (p 1) ∧
    lane 32 t.hi 0 = BitVec.ofInt 32 (p 2) ∧ lane 32 t.hi 1 = BitVec.ofInt 32 (p 3) ∧
    lane 32 t.lo 2 = BitVec.ofInt 32 (p 4) ∧ lane 32 t.lo 3 = BitVec.ofInt 32 (p 5) ∧
    lane 32 t.hi 2 = BitVec.ofInt 32 (p 6) ∧ lane 32 t.hi 3 = BitVec.ofInt 32 (p 7) ∧
    ∀ k, k < 4 → lane 32 (t.readQ rd) k = afterWrite rd (BitVec.ofInt 32 (p (2 * k)))

/-- The instruction writes four 32-bit numbers to `rd` and to the even word lanes of LO and HI, and draws values for the odd
ones (49_parallel_muldiv_pack.md R469). -/
def FillsEvenSlots (i : Instr) (s : State) (rd : Reg) (q : Nat → Int) : Prop :=
  Completes i s [.gprLow rd, .gprHigh rd, .hiLow, .hiHigh, .loLow, .loHigh, .draws] fun t =>
    lane 32 t.lo 0 = BitVec.ofInt 32 (q 0) ∧ lane 32 t.hi 0 = BitVec.ofInt 32 (q 1) ∧
    lane 32 t.lo 2 = BitVec.ofInt 32 (q 2) ∧ lane 32 t.hi 2 = BitVec.ofInt 32 (q 3) ∧
    (∀ k, k < 4 → lane 32 (t.readQ rd) k = afterWrite rd (BitVec.ofInt 32 (q k))) ∧ t.draws = s.draws + 1

/-- The signed product of the halfwords `k` of two registers. -/
def halves (s : State) (rs rt : Reg) (k : Nat) : Int := (lane 16 (s.readQ rs) k).toInt * (lane 16 (s.readQ rt) k).toInt

/-! ## Control transfer -/

/-- The instruction answers a next state with the given `pc`, `npc` and `bd` of which `post` holds; nothing but `changed` has
changed. -/
def Transfers (i : Instr) (s : State) (pc npc : Addr) (bd : Bool) (changed : List View) (post : State → Prop) : Prop :=
  ∃ t, exec i s = .next t ∧ t.pc = pc ∧ t.npc = npc ∧ t.bd = bd ∧ post t ∧ Frame s t (· ∈ changed)

/-- A conditional branch outside a delay slot (44_branch_jump.md R250): taken, the delay slot executes and control goes to
`pc + 4 + 4 * offset`; not taken, the delay slot executes, or is skipped where the branch is of the likely kind. -/
def Branches (i : Instr) (s : State) (taken likely : Bool) (offset : BitVec 16) (changed : List View)
    (post : State → Prop) : Prop :=
  if taken then Transfers i s s.npc (BitVec.ofInt 32 (s.pc.toInt + 4 + 4 * offset.toInt)) true changed post
  else if likely then Transfers i s (s.npc + 4) (s.npc + 8) false changed post
  else Transfers i s s.npc (s.npc + 4) true changed post

/-! ## Exceptions -/

/-- The bits of Cause that level-1 trap entry writes: ExcCode (6:2), CE (29:28), BD (31). -/
def causeWritten (k : Nat) : Bool := (decide (2 ≤ k) && decide (k ≤ 6)) || k == 28 || k == 29 || k == 31

/-- Level-1 trap entry, from `s` to `t` (60_exceptions.md R553, R554): `code` goes to Cause.ExcCode; `ce`, where it is given, to
Cause.CE; `badV` and `badP`, where they are given, to BadVAddr and BadPAddr. BEV is bit 22 of Status, BEM bit 12, EXL bit 1. -/
structure EntersLevel1 (s t : State) (interrupt : Bool) (code : Nat) (ce : Option Nat) (badV badP : Option Addr) : Prop where
  /-- Control goes to the vector. -/
  pc : t.pc = (if s.statusBit 22 then 0xBFC00200 else 0x80000000)
    + (if interrupt && !s.statusBit 1 then 0x200 else 0x180)
  /-- The handler's second instruction follows its first. -/
  npc : t.npc = t.pc + 4
  /-- The handler's first instruction stands in no delay slot. -/
  bd : t.bd = false
  /-- EPC, unless an exception is being handled. -/
  epc : t.cop0.epc = if s.statusBit 1 then s.cop0.epc else if s.bd then s.pc - 4 else s.pc
  /-- Cause.BD, unless an exception is being handled. -/
  delaySlot : t.cop0.cause.getLsbD 31 = if s.statusBit 1 then s.cop0.cause.getLsbD 31 else s.bd
  /-- Cause.ExcCode. -/
  excCode : (t.cop0.cause.extractLsb' 2 5).toNat = code
  /-- Cause.CE. -/
  coprocessor : ∀ z, ce = some z → (t.cop0.cause.extractLsb' 28 2).toNat = z
  /-- Cause.CE, whatever it is, is not 3 (90_conflicts.md C33). -/
  notThree : (t.cop0.cause.getLsbD 29 && t.cop0.cause.getLsbD 28) = false
  /-- The other bits of Cause. -/
  causeRest : ∀ k, causeWritten k = false → t.cop0.cause.getLsbD k = s.cop0.cause.getLsbD k
  /-- Status: EXL becomes 1, every other bit keeps its value. -/
  status : ∀ k, t.statusBit k = (k == 1 || s.statusBit k)
  /-- BadVAddr. -/
  badVAddr : t.cop0.badVAddr = badV.getD s.cop0.badVAddr
  /-- BadPAddr. -/
  badPAddr : t.cop0.badPAddr = if s.statusBit 12 then s.cop0.badPAddr else badP.getD s.cop0.badPAddr
  /-- Nothing else changes. -/
  frame : Frame s t (· ∈ [.status, .cause, .epc, .badVAddr, .badPAddr, .draws])

/-- The instruction raises an exception: it answers the state after level-1 trap entry. -/
def Raises (i : Instr) (s : State) (code : Nat) (ce : Option Nat := none) (badV badP : Option Addr := none) : Prop :=
  ∃ t, exec i s = .next t ∧ EntersLevel1 s t false code ce badV badP

/-- Level-2 trap entry, from `s` to `t` (60_exceptions.md R555): `code` goes to Cause.EXC2 (bits 18:16), the delay-slot flag to
BD2 (bit 30), `s.pc` or the branch before it to ErrorEPC; ERL (bit 2 of Status) becomes 1, and BEV (bit 22) where `bev` says
so. -/
structure EntersLevel2 (s t : State) (code : Nat) (vector : Addr) (bev : Bool) : Prop where
  /-- Control goes to the vector. -/
  pc : t.pc = vector
  /-- The handler's second instruction follows its first. -/
  npc : t.npc = t.pc + 4
  /-- The handler's first instruction stands in no delay slot. -/
  bd : t.bd = false
  /-- ErrorEPC. -/
  errorEpc : t.cop0.errorEpc = if s.bd then s.pc - 4 else s.pc
  /-- Cause.EXC2. -/
  exc2 : (t.cop0.cause.extractLsb' 16 3).toNat = code
  /-- Cause.BD2. -/
  delaySlot : t.cop0.cause.getLsbD 30 = s.bd
  /-- The other bits of Cause. -/
  causeRest : ∀ k, ¬ (16 ≤ k ∧ k ≤ 18) → k ≠ 30 → t.cop0.cause.getLsbD k = s.cop0.cause.getLsbD k
  /-- Status. -/
  status : ∀ k, t.statusBit k = (k == 2 || (bev && k == 22) || s.statusBit k)
  /-- Nothing else changes: EPC keeps its value. -/
  frame : Frame s t (· ∈ [.status, .cause, .errorEpc])

/-! ## The invariant -/

/-- What holds of every state that reset and steps lead to. -/
structure Inv (s : State) : Prop where
  /-- Memory has its canonical form. -/
  mem : Memory.wf s.mem = true
  /-- So has the set of stored addresses. -/
  stored : storedWf s.stored = true
  /-- Register 0 is stored as 0. -/
  zero : s.gpr[0] = 0
  /-- The fields of Status that read as 0 are 0 (10_state.md R41). -/
  status : s.cop0.status &&& ~~~statusMask = 0
  /-- KSU is not the reserved mode 11 (60_exceptions.md R560). -/
  ksu : (s.statusBit 4 && s.statusBit 3) = false
  /-- The fields of Cause that do not exist are 0 (10_state.md R42). -/
  cause : s.cop0.cause &&& ~~~causeMask = 0
  /-- CE of Cause is not 3 (90_conflicts.md C33). -/
  coprocessor : (s.cop0.cause.getLsbD 29 && s.cop0.cause.getLsbD 28) = false
  /-- The fields of Config that do not exist are 0 (10_state.md R47). -/
  config : s.cop0.config &&& ~~~configMask = 0
  /-- FCR31 has its fixed bits (10_state.md R36; log entry 27). -/
  fcr31 : fcr31View s.fcr31 = s.fcr31
  /-- No breakpoint is armed: IAE, DRE, DWE are 0 (60_exceptions.md R576). -/
  breakpoints : s.dbg.bpc &&& 0xE0000000 = 0
  /-- The counters do not count: CTE is 0 (60_exceptions.md R576). -/
  counters : s.perf.pccr.getLsbD 31 = false
  /-- Outside a delay slot the next instruction follows in memory (10_state.md R26). -/
  sequence : s.bd = false → s.npc = s.pc + 4

end Sys2Proof.Machine
end

