-- ==== Sys2Proof/Certificates/Slice0/Obligations.lean ====
section
/-! DEFINITION. The statements for the provers. The terms they are made in stand in Sys2Proof/Safety.lean. -/

open Sys2Proof Sys2Proof.Machine

/-! ## Reset, registers, memory -/

/-- 10_state.md R54, every row that states a value: the program counter at 0xBFC00000 outside a delay slot, register 0, the fixed
bits of FCR31, ERL and BEV set and BEM clear in Status (bits 2, 22, 12), EXC2 of Cause (bits 18:16), Config bits 18, 17, 16, 13, 12,
no breakpoint armed (bits 31:29 of BPC), no counter counting (bit 31 of PCCR), kernel mode, interrupts disabled. -/
def Obligations.ResetSetsTheStatedValues : Prop :=
  State.reset.readQ 0 = 0 ∧ State.reset.pc = 0xBFC00000 ∧ State.reset.npc = 0xBFC00004 ∧ State.reset.bd = false ∧
    State.reset.fcr31 &&& ~~~0x0083C078 = 0x01000001 ∧
    State.reset.statusBit 2 = true ∧ State.reset.statusBit 22 = true ∧ State.reset.statusBit 12 = false ∧
    State.reset.cop0.cause.extractLsb' 16 3 = 0 ∧
    (∀ k ∈ [12, 13, 16, 17, 18], State.reset.cop0.config.getLsbD k = false) ∧
    (∀ k ∈ [29, 30, 31], State.reset.dbg.bpc.getLsbD k = false) ∧ State.reset.perf.pccr.getLsbD 31 = false ∧
    State.reset.mode = .kernel ∧ State.reset.interruptPending = false

/-- 10_state.md R21: register 0 reads 0 at every width, whatever the register file holds, and a write to it changes nothing. -/
def Obligations.RegisterZeroReadsZeroAndDiscardsWrites : Prop :=
  ∀ (s : State) (q : Quad) (d : Dword) (w : Word),
    s.readQ 0 = 0 ∧ s.readD 0 = 0 ∧ s.readW 0 = 0 ∧ s.writeQ 0 q = s ∧ s.writeD 0 d = s ∧ s.writeW 0 w = s

/-- 20_memory.md R63: a value read from `n` bytes weighs the byte at the k-th address 2^(8k). The form of memory is canonical: two
memories of that form in which every byte reads the same are equal. -/
def Obligations.MemoryIsLittleEndianAndCanonical : Prop :=
  (∀ (m : Memory) (a : Addr) (n : Nat), n ≤ 16 → (m.readBytes a n).toNat = littleEndian m a n) ∧
    ∀ m₁ m₂ : Memory, Memory.wf m₁ = true → Memory.wf m₂ = true → (∀ a, Memory.read m₁ a = Memory.read m₂ a) → m₁ = m₂

/-- 45_load_store.md R270, 60_exceptions.md R560, 20_memory.md R71: the effective address is base register plus signed offset,
modulo 2^32. The mode is kernel while EXL or ERL is 1, else it follows KSU; kernel may access every address, supervisor the lower
half and 0xC0000000 to 0xDFFFFFFF, user the lower half. What the reserved mode KSU = 11 may access no rule says; that it may access
none is the model's choice (log entry 18). -/
def Obligations.AddressesModesAndSegments : Prop :=
  ∀ (s : State) (base : Reg) (offset : BitVec 16) (a : Addr),
    let privileged := s.statusBit 1 = true ∨ s.statusBit 2 = true
    let ksu := (s.cop0.status.extractLsb' 3 2).toNat
    ((s.effAddr base offset).toNat : Int) = ((s.readW base).toNat + offset.toInt) % 2 ^ 32 ∧
    (s.mode = .kernel ↔ privileged ∨ ksu = 0) ∧ (s.mode = .supervisor ↔ ¬ privileged ∧ ksu = 1) ∧
    (s.mode = .user ↔ ¬ privileged ∧ ksu = 2) ∧ (s.mode = .reserved ↔ ¬ privileged ∧ ksu = 3) ∧
    (segmentAllows .kernel a = true) ∧
    (segmentAllows .supervisor a = true ↔ a.toNat < 0x80000000 ∨ (0xC0000000 ≤ a.toNat ∧ a.toNat ≤ 0xDFFFFFFF)) ∧
    (segmentAllows .user a = true ↔ a.toNat < 0x80000000) ∧ (segmentAllows .reserved a = false)

/-! ## Decoding -/

/-- 30_encoding.md R90 to R107: decoding the word the encoder gives for a well-formed instruction gives the instruction back, for
every instruction of the listing and every value of its operands; and so through the four bytes of the word, least significant
first, leaving what follows them. -/
def Obligations.DecodeInvertsEncode : Prop :=
  ∀ (i : Instr) (rest : List Byte), i.wellFormed = true →
    decode (encode i) = .ok i ∧ decodeBytes (encodeBytes i ++ rest) = .ok (i, rest)

/-- Words of the spec's own examples, one of each family, decode to the instruction they stand for. -/
def Obligations.ExampleWordsDecode : Prop :=
  decode 0x012A4020 = .ok (.add 9 10 8) ∧ decode 0x2128FFFF = .ok (.addi 9 8 0xFFFF) ∧
  decode 0x00094100 = .ok (.sll 9 8 4) ∧ decode 0x012A0018 = .ok (.mult 9 10 0) ∧
  decode 0x51090002 = .ok (.beql 8 9 2) ∧ decode 0x0100F809 = .ok (.jalr 8 31) ∧
  decode 0x8C880002 = .ok (.lw 4 8 2) ∧ decode 0x7C88001F = .ok (.sq 4 8 0x1F) ∧
  decode 0x01090034 = .ok (.teq 8 9 0) ∧ decode 0x42000018 = .ok .eret ∧
  decode 0x40886000 = .ok (.mtc0 8 12) ∧ decode 0x4088C000 = .ok (.mtbpc 8) ∧
  decode 0x4008C803 = .ok (.mfpc 8 1) ∧ decode 0x46020832 = .ok (.cEqS 2 1) ∧
  decode 0x460208DC = .ok (.maddS 2 1 3) ∧ decode 0x712A4208 = .ok (.paddb 9 10 8) ∧
  decode 0x700A4134 = .ok (.psllh 10 8 4) ∧ decode 0x712A46E8 = .ok (.qfsrv 9 10 8)

/-- 30_encoding.md R112, 60_exceptions.md R544, R545: a step whose fetched word matches no row. The word raises ReservedInstruction
(code 10), but the word of an instruction that the hardware has and the listing lacks (POR, MTIABM, ADDA.S, CACHE, TLBR, TLBWI, TLBWR,
TLBP) is refused by name; both after the usability test of the coprocessor where the opcode is COP0 or COP1. A coprocessor-2 word
raises CoprocessorUnusable(2) while CU[2] is 0 and is refused while it is 1. Then: which words are the unlisted ones and those of
coprocessor 2. -/
def Obligations.UndecodedWordsRaise : Prop :=
  (∀ (s : State) (w : Word), s.pc.toNat % 4 = 0 → segmentAllows s.mode s.pc = true → MapGives s .fetch s.pc 4 .ram →
    (∀ k, k < 4 → (s.pc.toNat + k) % 2 ^ 32 ∉ s.stored) → w = BitVec.ofNat 32 (littleEndian s.mem s.pc 4) →
    eventTaken s.tick s.sample = none →
    let raises (code : Nat) (ce : Option Nat) := ∃ t, step s = .next t ∧ EntersLevel1 s.sample t false code ce none none
    let usable := (opOf w = 0b010000 → s.cop0Usable = true) ∧ (opOf w = 0b010001 → s.cop1Usable = true)
    let rejected := decode w = .error .reserved ∨ ∃ name, decode w = .error (.unlisted name)
    (decode w = .error .reserved → usable → raises 10 none) ∧
    (∀ name, decode w = .error (.unlisted name) → usable → step s = .refused (.unlistedInstruction name)) ∧
    (rejected → opOf w = 0b010000 → s.cop0Usable = false → raises 11 (some 0)) ∧
    (rejected → opOf w = 0b010001 → s.cop1Usable = false → raises 11 (some 1)) ∧
    (decode w = .error .coprocessor2 →
      if s.statusBit 30 then step s = .refused .coprocessor2 else raises 11 (some 2))) ∧
  (∀ w : Word, opOf w = 0b010010 ∨ opOf w = 0b110110 ∨ opOf w = 0b111110 → decode w = .error .coprocessor2) ∧
  (∀ w : Word, opOf w = 0b101111 → decode w = .error (.unlisted "CACHE")) ∧
  (∀ a b c : BitVec 5,
    decode (mkR 0b011100 a b c 0b10010 0b101001) = .error (.unlisted "POR") ∧
    decode (mkR 0b010000 0b00100 a 24 0 0b000011) = .error (.unlisted "MTIABM") ∧
    decode (mkR 0b010001 0b10000 a b 0 0b011000) = .error (.unlisted "ADDA.S")) ∧
  decode (mkR 0b010000 0b10000 0 0 0 0b000001) = .error (.unlisted "TLBR") ∧
  decode (mkR 0b010000 0b10000 0 0 0 0b000010) = .error (.unlisted "TLBWI") ∧
  decode (mkR 0b010000 0b10000 0 0 0 0b000110) = .error (.unlisted "TLBWR") ∧
  decode (mkR 0b010000 0b10000 0 0 0 0b001000) = .error (.unlisted "TLBP")

/-! ## The step -/

/-- 10_state.md R27, 60_exceptions.md R551: where no event is taken and the bytes at the program counter decode to `i`, a step is
`exec i` on the state after the inputs were sampled; where no input is scheduled, sampling changes nothing. -/
def Obligations.StepRunsTheDecodedInstruction : Prop :=
  ∀ (s : State) (i : Instr),
    (s.pc.toNat % 4 = 0 → segmentAllows s.mode s.pc = true → MapGives s .fetch s.pc 4 .ram →
      (∀ k, k < 4 → (s.pc.toNat + k) % 2 ^ 32 ∉ s.stored) → i.wellFormed = true →
      decode (BitVec.ofNat 32 (littleEndian s.mem s.pc 4)) = .ok i → eventTaken s.tick s.sample = none →
        step s = exec i s.sample) ∧
    (s.env = [] → s.sample = s ∧ (eventTaken s.tick s.sample = none ↔ s.interruptPending = false))

/-- 60_exceptions.md R551: before an instruction, the machine takes the first of these that is due: reset, NMI, the performance
counter, a breakpoint, an interrupt. WHEN a counter or breakpoint event is due is the model's choice (log entry 24): overflow and
matches are inputs that act while they are enabled, and every match, a data match included, is taken before the instruction, where
60_exceptions.md R577 recalls data breakpoints as taken after the access. -/
def Obligations.EventsAreTakenInOrder : Prop :=
  ∀ s : State,
    let u := s.sample
    let counter := s.tick.perfOverflow = true ∧ s.perf.pccr.getLsbD 31 = true ∧ s.statusBit 2 = false
    let match_ := debugRaises u.dbg.bpc (enabledHits u.dbg.bpc s.tick.debugHit) = true
    (s.tick.reset = true → step s = .next (resetEvent u)) ∧
    (s.tick.reset = false → s.tick.nmi = true → step s = .next (takeEvent2 .nmi u)) ∧
    (s.tick.reset = false → s.tick.nmi = false → counter → step s = .next (takeEvent2 .performanceCounter u)) ∧
    (s.tick.reset = false → s.tick.nmi = false → ¬ counter → match_ → step s = .next (takeEvent2 .debug u)) ∧
    (s.tick.reset = false → s.tick.nmi = false → ¬ counter → ¬ match_ → u.interruptPending = true →
      step s = .next (takeException .interrupt u)) ∧
    (s.tick.reset = false → s.tick.nmi = false → ¬ counter → ¬ match_ → u.interruptPending = false →
      step s = runInstruction u)

/-- 10_state.md R54, 70_reset_and_hazards.md R580: the reset event inside a run. Control goes to 0xBFC00000, outside a delay slot;
ErrorEPC is the old program counter; ERL and BEV of Status (bits 2, 22) become 1 and BEM (bit 12) 0; EXC2 of Cause (bits 18:16) becomes
0, and so do bits 18, 17, 16, 13, 12 of Config, bits 31:29 of BPC and bit 31 of PCCR. That every other register and field, and memory,
keeps its value, and that BD2 (bit 30 of Cause) becomes the old delay-slot flag, is the model's choice (log entry 25). -/
def Obligations.ResetEventSetsTheStatedValues : Prop :=
  ∀ s : State, s.tick.reset = true →
    let u := s.sample
    ∃ t, step s = .next t ∧ t.pc = 0xBFC00000 ∧ t.npc = t.pc + 4 ∧ t.bd = false ∧ t.cop0.errorEpc = s.pc ∧
      (∀ k, t.statusBit k = (k == 2 || k == 22 || (s.statusBit k && k != 12))) ∧
      (∀ k, t.cop0.cause.getLsbD k =
        if k = 30 then s.bd else u.cop0.cause.getLsbD k && !(decide (16 ≤ k) && decide (k ≤ 18))) ∧
      (∀ k, t.cop0.config.getLsbD k = (s.cop0.config.getLsbD k && decide (k ∉ [12, 13, 16, 17, 18]))) ∧
      (∀ k, t.dbg.bpc.getLsbD k = (u.dbg.bpc.getLsbD k && decide (k ∉ [29, 30, 31]))) ∧
      (∀ k, t.perf.pccr.getLsbD k = (s.perf.pccr.getLsbD k && decide (k ≠ 31))) ∧
      Frame u t (· ∈ [.errorEpc, .status, .cause, .config, .bpc, .pccr])

/-- 60_exceptions.md R547, R546, R553: while neither reset nor NMI is asserted, no counter counts and no breakpoint is armed (the
premises of R576), a step takes an interrupt exactly when IE, EIE are 1, EXL, ERL are 0 and a line asserted at this step, or the timer
bit IP[7], is enabled by its mask bit. Taking it: code 0 in Cause.ExcCode, control at the interrupt vector, EPC the instruction that did
not run (or the branch before it). Otherwise the instruction runs, whatever the mode. -/
def Obligations.InterruptIsTakenWhenEnabled : Prop :=
  ∀ s : State, s.tick.reset = false → s.tick.nmi = false → s.perf.pccr.getLsbD 31 = false →
    (∀ k ∈ [29, 30, 31], s.dbg.bpc.getLsbD k = false) →
    let u := s.sample
    let enabled := s.statusBit 0 = true ∧ s.statusBit 16 = true ∧ s.statusBit 1 = false ∧ s.statusBit 2 = false ∧
      ((s.tick.int0 = true ∧ s.statusBit 10 = true) ∨ (s.tick.int1 = true ∧ s.statusBit 11 = true) ∨
        ((s.tick.timerMatch = true ∨ s.cop0.cause.getLsbD 15 = true) ∧ s.statusBit 15 = true))
    (enabled → ∃ t, step s = .next t ∧ EntersLevel1 u t true 0 none none none ∧
      t.pc = (if s.statusBit 22 then 0xBFC00400 else 0x80000200) ∧ t.cop0.epc = (if s.bd then s.pc - 4 else s.pc)) ∧
    (¬ enabled → step s = runInstruction u)

/-- 60_exceptions.md R555, R554: the level-2 events. ErrorEPC, BD2 and EXC2 are written, ERL becomes 1; NMI sets BEV and goes to
the reset vector, the others to 0x080 and 0x100 past the base that DEV (bit 23 of Status) selects. EPC is not written. -/
def Obligations.LevelTwoEventsSaveIntoErrorEpc : Prop :=
  ∀ s : State,
    let base : Addr := if s.statusBit 23 then 0xBFC00200 else 0x80000000
    EntersLevel2 s (takeEvent2 .nmi s) 1 0xBFC00000 true ∧
    EntersLevel2 s (takeEvent2 .performanceCounter s) 2 (base + 0x080) false ∧
    EntersLevel2 s (takeEvent2 .debug s) 3 (base + 0x100) false

/-- 20_memory.md R65, R78, 60_exceptions.md R551, where no event is taken: a fetch from an address that is no multiple of 4, or that
the mode may not access, raises AddressErrorLoad (code 4, BadVAddr the address); in the reserved mode an aligned fetch stops (log
entry 18); a fetch where the map has nothing raises BusErrorFetch (code 6) while BEM, bit 12 of Status, is 0, and stops while it
is 1 (log entry 17); a fetch of a byte that the run has stored stops (log entry 20). A fetch from a device reads a word that the model
leaves free, which then runs (log entry 5). What the map has is the class that its first region to speak of the access names (log
entry 4). -/
def Obligations.FetchFailsAsStated : Prop :=
  ∀ s : State, s.env = [] → s.interruptPending = false →
    let absent := MapGives s .fetch s.pc 4 .absent
    let touched := ∃ k, k < 4 ∧ (s.pc.toNat + k) % 2 ^ 32 ∈ s.stored
    (s.pc.toNat % 4 ≠ 0 ∨ (s.mode ≠ .reserved ∧ segmentAllows s.mode s.pc = false) →
      ∃ t, step s = .next t ∧ EntersLevel1 s t false 4 none (some s.pc) none) ∧
    (s.pc.toNat % 4 = 0 → s.mode = .reserved → step s = .fault .ksuReserved) ∧
    (s.pc.toNat % 4 = 0 → segmentAllows s.mode s.pc = true →
      (absent → s.statusBit 12 = false → ∃ t, step s = .next t ∧ EntersLevel1 s t false 6 none none (some s.pc)) ∧
      (absent → s.statusBit 12 = true → step s = .fault .busErrorMasked) ∧
      (¬ absent → touched → step s = .fault .fetchAfterStore) ∧
      (¬ absent → ¬ touched → ¬ MapGives s .fetch s.pc 4 .ram →
        ∃ w : Word, step s =
          match decode w with
          | .ok i => exec i { s with draws := s.draws + 1 }
          | .error e => undecodable e w { s with draws := s.draws + 1 }))

/-- The invariant of the machine holds right after reset, and at the entry of every launched program whose memory has its canonical
form, whose Status is not the reserved mode, whose Cause names no coprocessor 3 (90_conflicts.md C33) and which neither arms a
breakpoint nor starts a counter. At the default launch
(60_exceptions.md R563) the mode is kernel, coprocessors 0 and 1 are usable, BEV is 1 and no interrupt is enabled. At the entry of every
launch control is at the entry pc, outside a delay slot, and each register that the launch gives a value holds it
(70_reset_and_hazards.md R583). The values of registers that reset or the launch does not name are the model's choice (log entries 1,
35). -/
def Obligations.InvariantHoldsAtReset : Prop :=
  Inv State.reset ∧
  ∀ l : LaunchState,
    (Memory.wf l.memory = true → l.cop0.status.extractLsb' 3 2 ≠ 3 → l.cop0.cause.extractLsb' 28 2 ≠ 3 →
      (∀ k ∈ [29, 30, 31], l.dbg.bpc.getLsbD k = false) → l.perf.pccr.getLsbD 31 = false → Inv l.state) ∧
    l.state.pc = l.entry ∧ l.state.npc = l.entry + 4 ∧ l.state.bd = false ∧ l.state.mem = l.memory ∧
    (∀ r q, r ≠ 0 → (r, q) ∈ l.gpr → (∀ p ∈ l.gpr, p.1 = r → p.2 = q) → l.state.readQ r = q) ∧
    (∀ r w, (r, w) ∈ l.fpr → (∀ p ∈ l.fpr, p.1 = r → p.2 = w) → l.state.readF r = w) ∧
    l.state.hi = l.hi ∧ l.state.lo = l.lo ∧ l.state.saBytes = l.saBytes ∧ l.state.acc = l.acc ∧
    l.state.fcr31 = (l.fcr31 &&& 0x0083C078) ||| 0x01000001 ∧ l.state.dbg = l.dbg ∧ l.state.perf = l.perf ∧
    l.state.cop0 = { l.cop0 with
      status := l.cop0.status &&& statusMask, cause := l.cop0.cause &&& causeMask, config := l.cop0.config &&& configMask } ∧
    (l.cop0.status = launchStatus → l.state.mode = .kernel ∧ l.state.cop0Usable = true ∧ l.state.cop1Usable = true ∧
      l.state.statusBit 22 = true ∧ l.state.statusBit 0 = false ∧ l.state.statusBit 16 = false)

/-- Every step from a state of which the invariant holds, be it a reset, an event, an exception or any of the 271 instructions,
leads to a state of which it holds. -/
def Obligations.InvariantIsKeptByEveryStep : Prop := ∀ s t : State, Inv s → step s = .next t → Inv t

/-- 60_exceptions.md R576: in a state of which the invariant holds no step takes a performance-counter or breakpoint exception,
whatever the inputs do: where neither reset nor NMI is asserted and no interrupt is pending, the instruction runs. -/
def Obligations.NoCounterOrBreakpointException : Prop :=
  ∀ s : State, Inv s → s.tick.reset = false → s.tick.nmi = false → s.sample.interruptPending = false →
    step s = runInstruction s.sample ∧ s.sample.dbg = s.dbg

/-! ## Integer arithmetic, logic, comparison, shifts -/

/-- ADDU, SUBU, ADDIU: the 32-bit result wraps and is sign-extended; DADDU, DSUBU, DADDIU: the 64-bit result wraps. They write
bits 63:0 of the destination and nothing else, and never raise. -/
def Obligations.UncheckedSumsWrap : Prop :=
  ∀ (s : State) (rs rt rd : Reg) (imm : BitVec 16),
    WritesLow (.addu rs rt rd) s rd (signedWord ((s.readW rs).toInt + (s.readW rt).toInt)) ∧
    WritesLow (.subu rs rt rd) s rd (signedWord ((s.readW rs).toInt - (s.readW rt).toInt)) ∧
    WritesLow (.addiu rs rt imm) s rt (signedWord ((s.readW rs).toInt + imm.toInt)) ∧
    WritesLow (.daddu rs rt rd) s rd (BitVec.ofInt 64 ((s.readD rs).toInt + (s.readD rt).toInt)) ∧
    WritesLow (.dsubu rs rt rd) s rd (BitVec.ofInt 64 ((s.readD rs).toInt - (s.readD rt).toInt)) ∧
    WritesLow (.daddiu rs rt imm) s rt (BitVec.ofInt 64 ((s.readD rs).toInt + imm.toInt))

/-- ADD, ADDI, SUB, DADD, DADDI, DSUB: where the exact signed result fits 32 (64) bits it is written; where it does not, the
instruction raises IntegerOverflow (code 12) and has no other effect, whatever the destination. -/
def Obligations.CheckedSumsWriteOrRaise : Prop :=
  ∀ (s : State) (rs rt rd : Reg) (imm : BitVec 16),
    let word (i : Instr) (r : Reg) (v : Int) :=
      if -2 ^ 31 ≤ v ∧ v < 2 ^ 31 then WritesLow i s r (BitVec.ofInt 64 v) else Raises i s 12
    let dword (i : Instr) (r : Reg) (v : Int) :=
      if -2 ^ 63 ≤ v ∧ v < 2 ^ 63 then WritesLow i s r (BitVec.ofInt 64 v) else Raises i s 12
    word (.add rs rt rd) rd ((s.readW rs).toInt + (s.readW rt).toInt) ∧
    word (.addi rs rt imm) rt ((s.readW rs).toInt + imm.toInt) ∧
    word (.sub rs rt rd) rd ((s.readW rs).toInt - (s.readW rt).toInt) ∧
    dword (.dadd rs rt rd) rd ((s.readD rs).toInt + (s.readD rt).toInt) ∧
    dword (.daddi rs rt imm) rt ((s.readD rs).toInt + imm.toInt) ∧
    dword (.dsub rs rt rd) rd ((s.readD rs).toInt - (s.readD rt).toInt)

/-- AND, OR, XOR, NOR and their immediate forms, bit by bit on 64 bits, immediates zero-extended; LUI: the immediate times 2^16,
as a sign-extended word. -/
def Obligations.LogicIsBitwise : Prop :=
  ∀ (s : State) (rs rt rd : Reg) (imm : BitVec 16),
    let a := fun k => (s.readD rs).getLsbD k
    let b := fun k => (s.readD rt).getLsbD k
    let c := fun k => decide (k < 16) && imm.getLsbD k
    WritesLowBits (.and rs rt rd) s rd (fun k => a k && b k) ∧
    WritesLowBits (.or rs rt rd) s rd (fun k => a k || b k) ∧
    WritesLowBits (.xor rs rt rd) s rd (fun k => a k != b k) ∧
    WritesLowBits (.nor rs rt rd) s rd (fun k => !(a k || b k)) ∧
    WritesLowBits (.andi rs rt imm) s rt (fun k => a k && c k) ∧
    WritesLowBits (.ori rs rt imm) s rt (fun k => a k || c k) ∧
    WritesLowBits (.xori rs rt imm) s rt (fun k => a k != c k) ∧
    WritesLow (.lui rt imm) s rt (signedWord (imm.toNat * 2 ^ 16))

/-- SLT, SLTI, SLTU, SLTIU: 1 or 0 by a signed or unsigned comparison of 64 bits, the immediate sign-extended in both; MOVN, MOVZ:
a move of 64 bits, or no effect at all. -/
def Obligations.ComparisonsAndConditionalMoves : Prop :=
  ∀ (s : State) (rs rt rd : Reg) (imm : BitVec 16),
    WritesLow (.slt rs rt rd) s rd (if (s.readD rs).toInt < (s.readD rt).toInt then 1 else 0) ∧
    WritesLow (.slti rs rt imm) s rt (if (s.readD rs).toInt < imm.toInt then 1 else 0) ∧
    WritesLow (.sltu rs rt rd) s rd (if (s.readD rs).toNat < (s.readD rt).toNat then 1 else 0) ∧
    WritesLow (.sltiu rs rt imm) s rt (if ((s.readD rs).toNat : Int) < imm.toInt % 2 ^ 64 then 1 else 0) ∧
    (if (s.readD rt).toNat = 0 then OnlyAdvances (.movn rs rt rd) s else WritesLow (.movn rs rt rd) s rd (s.readD rs)) ∧
    (if (s.readD rt).toNat = 0 then WritesLow (.movz rs rt rd) s rd (s.readD rs) else OnlyAdvances (.movz rs rt rd) s)

/-- SLL, SRL, SRA and their variable forms: multiplication or division by a power of 2 of the low word, the result sign-extended
from 32 bits; a variable amount is the register modulo 32. -/
def Obligations.WordShiftsScale : Prop :=
  ∀ (s : State) (rs rt rd : Reg) (sa : BitVec 5),
    let amount := (s.readD rs).toNat % 32
    WritesLow (.sll rt rd sa) s rd (signedWord ((s.readW rt).toNat * 2 ^ sa.toNat)) ∧
    WritesLow (.srl rt rd sa) s rd (signedWord ((s.readW rt).toNat / 2 ^ sa.toNat : Nat)) ∧
    WritesLow (.sra rt rd sa) s rd (signedWord ((s.readW rt).toInt / 2 ^ sa.toNat)) ∧
    WritesLow (.sllv rs rt rd) s rd (signedWord ((s.readW rt).toNat * 2 ^ amount)) ∧
    WritesLow (.srlv rs rt rd) s rd (signedWord ((s.readW rt).toNat / 2 ^ amount : Nat)) ∧
    WritesLow (.srav rs rt rd) s rd (signedWord ((s.readW rt).toInt / 2 ^ amount))

/-- DSLL, DSRL, DSRA, their forms with 32 more, and their variable forms: the same on 64 bits; a variable amount is the register
modulo 64. -/
def Obligations.DoublewordShiftsScale : Prop :=
  ∀ (s : State) (rs rt rd : Reg) (sa : BitVec 5),
    let amount := (s.readD rs).toNat % 64
    WritesLow (.dsll rt rd sa) s rd (BitVec.ofNat 64 ((s.readD rt).toNat * 2 ^ sa.toNat)) ∧
    WritesLow (.dsrl rt rd sa) s rd (BitVec.ofNat 64 ((s.readD rt).toNat / 2 ^ sa.toNat)) ∧
    WritesLow (.dsra rt rd sa) s rd (BitVec.ofInt 64 ((s.readD rt).toInt / 2 ^ sa.toNat)) ∧
    WritesLow (.dsll32 rt rd sa) s rd (BitVec.ofNat 64 ((s.readD rt).toNat * 2 ^ (sa.toNat + 32))) ∧
    WritesLow (.dsrl32 rt rd sa) s rd (BitVec.ofNat 64 ((s.readD rt).toNat / 2 ^ (sa.toNat + 32))) ∧
    WritesLow (.dsra32 rt rd sa) s rd (BitVec.ofInt 64 ((s.readD rt).toInt / 2 ^ (sa.toNat + 32))) ∧
    WritesLow (.dsllv rs rt rd) s rd (BitVec.ofNat 64 ((s.readD rt).toNat * 2 ^ amount)) ∧
    WritesLow (.dsrlv rs rt rd) s rd (BitVec.ofNat 64 ((s.readD rt).toNat / 2 ^ amount)) ∧
    WritesLow (.dsrav rs rt rd) s rd (BitVec.ofInt 64 ((s.readD rt).toInt / 2 ^ amount))

/-! ## Multiply, divide, HI and LO -/

/-- MULT, MULTU, MULT1, MULTU1: the exact product, its low word to LO and the destination, its high word to HI, each
sign-extended; the "1" forms use bits 127:64 of LO and HI and leave bits 63:0 alone, the others the reverse. MADD, MADDU, MADD1,
MADDU1 first add to it the 64-bit accumulator made of the low words of HI and LO (of HI1 and LO1), modulo 2^64. -/
def Obligations.MultipliesFillHiAndLo : Prop :=
  ∀ (s : State) (rs rt rd : Reg),
    let signed := (s.readW rs).toInt * (s.readW rt).toInt
    let unsigned : Int := (s.readW rs).toNat * (s.readW rt).toNat
    Multiplies (.mult rs rt rd) s false rd signed ∧ Multiplies (.multu rs rt rd) s false rd unsigned ∧
    Multiplies (.mult1 rs rt rd) s true rd signed ∧ Multiplies (.multu1 rs rt rd) s true rd unsigned ∧
    Multiplies (.madd rs rt rd) s false rd (accumulated s 0 + signed) ∧
    Multiplies (.maddu rs rt rd) s false rd (accumulated s 0 + unsigned) ∧
    Multiplies (.madd1 rs rt rd) s true rd (accumulated s 2 + signed) ∧
    Multiplies (.maddu1 rs rt rd) s true rd (accumulated s 2 + unsigned)

/-- DIV, DIVU, DIV1, DIVU1: the quotient rounded toward zero to LO, the remainder to HI. Division by zero, and -2^31 by -1, raise
nothing: quotient and remainder then are the constants that `DivCorner` leaves open (log entry 9). -/
def Obligations.DividesRoundTowardZero : Prop :=
  ∀ (s : State) (rs rt : Reg),
    let n := (s.readW rs).toInt
    let d := (s.readW rt).toInt
    let un := (s.readW rs).toNat
    let ud := (s.readW rt).toNat
    let signed (i : Instr) (upper : Bool) :=
      if d = 0 then Divides i s upper (Config.divCorner .divByZero n d).1 (Config.divCorner .divByZero n d).2
      else if n = -2 ^ 31 ∧ d = -1 then
        Divides i s upper (Config.divCorner .divOverflow n d).1 (Config.divCorner .divOverflow n d).2
      else ∃ q r : Int, n = q * d + r ∧ r.natAbs < d.natAbs ∧ (r = 0 ∨ r.sign = n.sign) ∧ Divides i s upper q r
    let unsigned (i : Instr) (upper : Bool) :=
      if ud = 0 then Divides i s upper (Config.divCorner .divuByZero un ud).1 (Config.divCorner .divuByZero un ud).2
      else ∃ q r : Nat, un = q * ud + r ∧ r < ud ∧ Divides i s upper q r
    signed (.div rs rt) false ∧ signed (.div1 rs rt) true ∧ unsigned (.divu rs rt) false ∧ unsigned (.divu1 rs rt) true

/-! ## Branches and jumps -/

/-- The conditional branches outside a delay slot, plain and likely: conditions on 64 bits, signed; no register changes. -/
def Obligations.ConditionalBranchesTransfer : Prop :=
  ∀ (s : State) (rs rt : Reg) (offset : BitVec 16), s.bd = false →
    let a := (s.readD rs).toInt
    let b := (s.readD rt).toInt
    let goes (i : Instr) (taken likely : Bool) := Branches i s taken likely offset [] fun _ => True
    goes (.beq rs rt offset) (decide (a = b)) false ∧ goes (.beql rs rt offset) (decide (a = b)) true ∧
    goes (.bne rs rt offset) (decide (a ≠ b)) false ∧ goes (.bnel rs rt offset) (decide (a ≠ b)) true ∧
    goes (.blez rs offset) (decide (a ≤ 0)) false ∧ goes (.blezl rs offset) (decide (a ≤ 0)) true ∧
    goes (.bgtz rs offset) (decide (0 < a)) false ∧ goes (.bgtzl rs offset) (decide (0 < a)) true ∧
    goes (.bltz rs offset) (decide (a < 0)) false ∧ goes (.bltzl rs offset) (decide (a < 0)) true ∧
    goes (.bgez rs offset) (decide (0 ≤ a)) false ∧ goes (.bgezl rs offset) (decide (0 ≤ a)) true

/-- BLTZAL, BGEZAL, BLTZALL, BGEZALL outside a delay slot: the link, the zero-extended address after the delay slot, is written to
register 31 whether or not the branch is taken; with `rs` = 31 the situation link_source (93_implementation_defined.md U5) is refused
(log entry 21). That the link is zero-extended also where bit 31 of the address is set is the model's choice (log entry 34). -/
def Obligations.BranchesAndLinkAlwaysLink : Prop :=
  ∀ (s : State) (rs : Reg) (offset : BitVec 16),
    let a := (s.readD rs).toInt
    let goes (i : Instr) (taken likely : Bool) :=
      Branches i s taken likely offset [.gprLow 31] fun t => (t.readD 31).toNat = (s.pc.toNat + 8) % 2 ^ 32
    (rs ≠ 31 → s.bd = false →
      goes (.bltzal rs offset) (decide (a < 0)) false ∧ goes (.bltzall rs offset) (decide (a < 0)) true ∧
      goes (.bgezal rs offset) (decide (0 ≤ a)) false ∧ goes (.bgezall rs offset) (decide (0 ≤ a)) true) ∧
    (rs = 31 → ∀ i ∈ [Instr.bltzal rs offset, .bltzall rs offset, .bgezal rs offset, .bgezall rs offset],
      exec i s = .refused .linkSource)

/-- J, JAL, JR, JALR outside a delay slot: the delay slot runs, then control reaches the target; the region of J and JAL is that of
the delay slot; JAL links in register 31, JALR in `rd`, the target read before. JALR with `rd` = `rs` is link_source, but for
register 0, which links nothing (log entry 21). That the link is zero-extended also where bit 31 of the address is set is the
model's choice (log entry 34). -/
def Obligations.JumpsTransferAndLink : Prop :=
  ∀ (s : State) (rs rd : Reg) (index : BitVec 26),
    let target : Addr := BitVec.ofNat 32 ((s.pc + 4).toNat / 2 ^ 28 * 2 ^ 28 + index.toNat * 4)
    let link : Dword := BitVec.ofNat 64 ((s.pc.toNat + 8) % 2 ^ 32)
    (s.bd = false →
      Transfers (.j index) s s.npc target true [] (fun _ => True) ∧
      Transfers (.jal index) s s.npc target true [.gprLow 31] (fun t => t.readD 31 = link) ∧
      Transfers (.jr rs) s s.npc (s.readW rs) true [] (fun _ => True) ∧
      (rd ≠ rs ∨ rd = 0 →
        Transfers (.jalr rs rd) s s.npc (s.readW rs) true [.gprLow rd] (fun t => t.readD rd = afterWrite rd link))) ∧
    (rd = rs → rd ≠ 0 → exec (.jalr rs rd) s = .refused .linkSource)

/-- 10_state.md R29: every branch and jump that stands in a delay slot stops as branch_in_delay_slot, taken or not. -/
def Obligations.BranchInDelaySlotStops : Prop :=
  ∀ (s : State) (rs rt rd : Reg) (offset : BitVec 16) (index : BitVec 26), s.bd = true →
    (∀ i ∈ [Instr.beq rs rt offset, .bne rs rt offset, .blez rs offset, .bgtz rs offset, .bltz rs offset, .bgez rs offset,
        .beql rs rt offset, .bnel rs rt offset, .blezl rs offset, .bgtzl rs offset, .bltzl rs offset, .bgezl rs offset,
        .j index, .jal index, .jr rs], exec i s = .fault .branchInDelaySlot) ∧
    (rs ≠ 31 → ∀ i ∈ [Instr.bltzal rs offset, .bgezal rs offset, .bltzall rs offset, .bgezall rs offset],
      exec i s = .fault .branchInDelaySlot) ∧
    (rd ≠ rs ∨ rd = 0 → exec (.jalr rs rd) s = .fault .branchInDelaySlot) ∧
    (s.cop0Usable = true → ∀ i ∈ [Instr.bc0f offset, .bc0fl offset, .bc0t offset, .bc0tl offset],
      exec i s = .fault .branchInDelaySlot) ∧
    (s.cop1Usable = true → ∀ i ∈ [Instr.bc1f offset, .bc1fl offset, .bc1t offset, .bc1tl offset],
      exec i s = .fault .branchInDelaySlot)

/-! ## Loads and stores -/

/-- LB, LBU, LH, LHU, LW, LWU, LD at an aligned address of ordinary memory that the mode may access: the little-endian value, sign- or
zero-extended, into bits 63:0; LQ: the aligned quadword that contains the address, into all 128 bits. -/
def Obligations.AlignedLoadsRead : Prop :=
  ∀ (s : State) (base rt : Reg) (offset : BitVec 16),
    let ea := s.effAddr base offset
    let value := fun n => (littleEndian s.mem ea n : Int)
    (segmentAllows s.mode ea = true →
      (MapGives s .load ea 1 .ram →
        WritesLow (.lb base rt offset) s rt (BitVec.ofInt 64 ((value 1).bmod (2 ^ 8))) ∧
        WritesLow (.lbu base rt offset) s rt (BitVec.ofInt 64 (value 1))) ∧
      (ea.toNat % 2 = 0 → MapGives s .load ea 2 .ram →
        WritesLow (.lh base rt offset) s rt (BitVec.ofInt 64 ((value 2).bmod (2 ^ 16))) ∧
        WritesLow (.lhu base rt offset) s rt (BitVec.ofInt 64 (value 2))) ∧
      (ea.toNat % 4 = 0 → MapGives s .load ea 4 .ram →
        WritesLow (.lw base rt offset) s rt (BitVec.ofInt 64 ((value 4).bmod (2 ^ 32))) ∧
        WritesLow (.lwu base rt offset) s rt (BitVec.ofInt 64 (value 4))) ∧
      (ea.toNat % 8 = 0 → MapGives s .load ea 8 .ram →
        WritesLow (.ld base rt offset) s rt (BitVec.ofInt 64 (value 8)))) ∧
    (segmentAllows s.mode (blockOf ea 16) = true → MapGives s .load (blockOf ea 16) 16 .ram →
      WritesLanes 8 16 (.lq base rt offset) s rt fun k => Memory.read s.mem (ea.toNat / 16 * 16 + k))

/-- LWL, LWR, LDL, LDR: byte by byte, which bytes of the register come from memory and which keep their value. LWL sign-extends the
word; LWR does so only when it loads the whole word, else bits 63:32 keep their value. -/
def Obligations.UnalignedLoadsMerge : Prop :=
  ∀ (s : State) (base rt : Reg) (offset : BitVec 16),
    let ea := s.effAddr base offset
    let k4 := ea.toNat % 4
    let k8 := ea.toNat % 8
    segmentAllows s.mode ea = true →
    (MapGives s .load (blockOf ea 4) (k4 + 1) .ram →
      ∃ w : Word, WritesLow (.lwl base rt offset) s rt (w.signExtend 64) ∧ ∀ j, j < 4 → byteOf w j =
        if 3 - k4 ≤ j then Memory.read s.mem (ea.toNat - k4 + (j - (3 - k4))) else byteOf (s.readW rt) j) ∧
    (MapGives s .load ea (4 - k4) .ram →
      ∃ w : Word, WritesLow (.lwr base rt offset) s rt
          (if k4 = 0 then w.signExtend 64 else highW (s.readD rt) ++ w) ∧ ∀ j, j < 4 → byteOf w j =
        if j < 4 - k4 then Memory.read s.mem (ea.toNat + j) else byteOf (s.readW rt) j) ∧
    (MapGives s .load (blockOf ea 8) (k8 + 1) .ram →
      ∃ d : Dword, WritesLow (.ldl base rt offset) s rt d ∧ ∀ j, j < 8 → byteOf d j =
        if 7 - k8 ≤ j then Memory.read s.mem (ea.toNat - k8 + (j - (7 - k8))) else byteOf (s.readD rt) j) ∧
    (MapGives s .load ea (8 - k8) .ram →
      ∃ d : Dword, WritesLow (.ldr base rt offset) s rt d ∧ ∀ j, j < 8 → byteOf d j =
        if j < 8 - k8 then Memory.read s.mem (ea.toNat + j) else byteOf (s.readD rt) j)

/-- SB, SH, SW, SD, SQ, SWL, SWR, SDL, SDR to ordinary memory that the mode may access, in a memory of canonical form: which byte of
the register goes to which address; every other byte of memory, and every register, keeps its value. -/
def Obligations.StoresWriteTheirBytes : Prop :=
  ∀ (s : State) (base rt : Reg) (offset : BitVec 16), Memory.wf s.mem = true →
    let ea := s.effAddr base offset
    let k4 := ea.toNat % 4
    let k8 := ea.toNat % 8
    let reg := fun k => lane 8 (s.readQ rt) k
    (segmentAllows s.mode ea = true →
      (MapGives s .store ea 1 .ram → Stores (.sb base rt offset) s ea 1 reg) ∧
      (ea.toNat % 2 = 0 → MapGives s .store ea 2 .ram → Stores (.sh base rt offset) s ea 2 reg) ∧
      (ea.toNat % 4 = 0 → MapGives s .store ea 4 .ram → Stores (.sw base rt offset) s ea 4 reg) ∧
      (ea.toNat % 8 = 0 → MapGives s .store ea 8 .ram → Stores (.sd base rt offset) s ea 8 reg) ∧
      (MapGives s .store (blockOf ea 4) (k4 + 1) .ram →
        Stores (.swl base rt offset) s (blockOf ea 4) (k4 + 1) fun k => reg (3 - k4 + k)) ∧
      (MapGives s .store ea (4 - k4) .ram → Stores (.swr base rt offset) s ea (4 - k4) reg) ∧
      (MapGives s .store (blockOf ea 8) (k8 + 1) .ram →
        Stores (.sdl base rt offset) s (blockOf ea 8) (k8 + 1) fun k => reg (7 - k8 + k)) ∧
      (MapGives s .store ea (8 - k8) .ram → Stores (.sdr base rt offset) s ea (8 - k8) reg)) ∧
    (segmentAllows s.mode (blockOf ea 16) = true → MapGives s .store (blockOf ea 16) 16 .ram →
      Stores (.sq base rt offset) s (blockOf ea 16) 16 reg)

/-- 45_load_store.md R270, 20_memory.md R64, R71: alignment first, then the segment, then MemMap. A load or store at an address that
is no multiple of its alignment, or that the mode may not access, raises AddressErrorLoad (code 4) or AddressErrorStore (code 5)
with the address in BadVAddr; an aligned one in the reserved mode stops (log entry 18); one where the map has nothing raises BusErrorData
(code 7), with the address of its first byte in BadPAddr, while BEM, bit 12 of Status, is 0, and stops while it is 1. Three points are the
model's choices: what the map has is the class that its first region to speak of the access names (log entry 4); the address that a bus
error reports (log entry 16); that an access there stops, and raises nothing, while BEM is 1 (log entry 17). -/
def Obligations.FailingAccessesRaise : Prop :=
  ∀ (s : State) (base rt : Reg) (offset : BitVec 16),
    let ea := s.effAddr base offset
    let aligned (f : Access) := f.reported.toNat % f.align = 0
    let bad (f : Access) := ¬ aligned f ∨ (s.mode ≠ .reserved ∧ segmentAllows s.mode f.reported = false)
    let missing (f : Access) (kind : AccessKind) := aligned f ∧ segmentAllows s.mode f.reported = true ∧
      MapGives s kind f.start f.bytes .absent
    (∀ f ∈ loadForms base rt offset ea,
      (bad f → Raises f.instr s 4 none (some f.reported)) ∧
      (missing f .load → s.statusBit 12 = false → Raises f.instr s 7 none none (some f.start)) ∧
      (missing f .load → s.statusBit 12 = true → exec f.instr s = .fault .busErrorMasked) ∧
      (aligned f → s.mode = .reserved → exec f.instr s = .fault .ksuReserved)) ∧
    (∀ f ∈ storeForms base rt offset ea,
      (bad f → Raises f.instr s 5 none (some f.reported)) ∧
      (missing f .store → s.statusBit 12 = false → Raises f.instr s 7 none none (some f.start)) ∧
      (missing f .store → s.statusBit 12 = true → exec f.instr s = .fault .busErrorMasked) ∧
      (aligned f → s.mode = .reserved → exec f.instr s = .fault .ksuReserved))

/-- 20_memory.md R70: a load from a device completes with values the model leaves free, one draw; a store there completes and changes
no byte of memory. That device accesses complete so is the model's choice (log entry 5). -/
def Obligations.DeviceAccessesComplete : Prop :=
  ∀ (s : State) (base rt : Reg) (offset : BitVec 16),
    let ea := s.effAddr base offset
    let outside (f : Access) (kind : AccessKind) := f.reported.toNat % f.align = 0 ∧ segmentAllows s.mode f.reported = true ∧
      MapGives s kind f.start f.bytes .device
    (∀ f ∈ loadForms base rt offset ea, outside f .load →
      Completes f.instr s (if f.bytes = 16 then [.gprLow rt, .gprHigh rt, .draws] else [.gprLow rt, .draws])
        fun t => t.draws = s.draws + 1) ∧
    (∀ f ∈ storeForms base rt offset ea, outside f .store →
      CompletesIn f.instr s (InMarks f.start f.bytes) fun t => t.mem = s.mem)

/-- PREF and SYNC have no effect, whatever the address or the kind: no access is made and nothing is raised. -/
def Obligations.PrefAndSyncOnlyAdvance : Prop :=
  ∀ (s : State) (base : Reg) (hint stype : BitVec 5) (offset : BitVec 16),
    OnlyAdvances (.pref base hint offset) s ∧ OnlyAdvances (.sync stype) s

/-! ## Traps, exceptions, the system-control coprocessor -/

/-- The twelve conditional traps: Trap (code 13) when the comparison of 64 bits holds, signed or unsigned, immediates sign-extended
in both; else no effect. -/
def Obligations.ConditionalTrapsRaiseWhenTrue : Prop :=
  ∀ (s : State) (rs rt : Reg) (code : BitVec 10) (imm : BitVec 16),
    let a := (s.readD rs).toInt
    let b := (s.readD rt).toInt
    let ua : Int := (s.readD rs).toNat
    let ub : Int := (s.readD rt).toNat
    let c := imm.toInt
    let uc := imm.toInt % 2 ^ 64
    let traps (i : Instr) (h : Bool) := if h then Raises i s 13 else OnlyAdvances i s
    traps (.tge rs rt code) (decide (a ≥ b)) ∧ traps (.tgeu rs rt code) (decide (ua ≥ ub)) ∧
    traps (.tlt rs rt code) (decide (a < b)) ∧ traps (.tltu rs rt code) (decide (ua < ub)) ∧
    traps (.teq rs rt code) (decide (a = b)) ∧ traps (.tne rs rt code) (decide (a ≠ b)) ∧
    traps (.tgei rs imm) (decide (a ≥ c)) ∧ traps (.tgeiu rs imm) (decide (ua ≥ uc)) ∧
    traps (.tlti rs imm) (decide (a < c)) ∧ traps (.tltiu rs imm) (decide (ua < uc)) ∧
    traps (.teqi rs imm) (decide (a = c)) ∧ traps (.tnei rs imm) (decide (a ≠ c))

/-- SYSCALL raises SystemCall (code 8) and BREAK Breakpoint (code 9), whatever the code field: taking the exception is their
effect. In a launched run the call is handed to the environment first, which ends the run, goes on from a state of its own, or
leaves the exception to the machine (92_eei_decisions.md D10; log entries 14, 36); the default environment ends a run at a SYSCALL
(D31). -/
def Obligations.SyscallAndBreakRaise : Prop :=
  (∀ (s : State) (code : BitVec 20), Raises (.syscall code) s 8 ∧ Raises (.breakI code) s 9) ∧
  (∀ (answer : EnvCall → State → EnvAnswer) (s t : State) (code : BitVec 20),
    let goes (c : EnvCall) (e : Exc) := launchedStep answer s =
      match answer c t with
      | .endOfRun => .error .environment
      | .resume u => .ok u
      | .trap => .ok (takeException e t)
    (nextInstr s = some (.syscall code, t) → goes (.systemCall code) .systemCall) ∧
    (nextInstr s = some (.breakI code, t) → goes (.breakpoint code) .breakpoint)) ∧
  (∀ (l : LaunchState) (f : Answers) (n : Nat) (s t : State) (code : BitVec 20), SyscallEnv.default.Allows f →
    nextInstr s = some (.syscall code, t) → l.run f (n + 1) false s = (s, some .environment))

/-- ERET while coprocessor 0 is usable, outside a delay slot: with ERL = 1 it clears ERL (bit 2 of Status) and goes to ErrorEPC,
else it clears EXL (bit 1) and goes to EPC; there is no delay slot and no other bit of Status changes. In a delay slot it
stops. -/
def Obligations.EretReturns : Prop :=
  ∀ s : State, s.cop0Usable = true →
    (s.bd = true → exec .eret s = .fault .eretInDelaySlot) ∧
    (s.bd = false →
      let target := if s.statusBit 2 then s.cop0.errorEpc else s.cop0.epc
      let cleared := if s.statusBit 2 then 2 else 1
      Transfers .eret s target (target + 4) false [.status] fun t =>
        ∀ k, t.statusBit k = (s.statusBit k && decide (k ≠ cleared)))

/-- A level-1 exception taken outside exception handling, by an instruction in no delay slot, and then ERET: control comes back to
the instruction that raised, and Status is as it was. -/
def Obligations.EretUndoesExceptionEntry : Prop :=
  ∀ (s : State) (e : Exc), s.statusBit 1 = false → s.statusBit 2 = false → s.bd = false →
    ∃ t, exec .eret (takeException e s) = .next t ∧ t.pc = s.pc ∧ t.npc = s.pc + 4 ∧ t.bd = false ∧
      t.cop0.status = s.cop0.status ∧ t.mode = s.mode

/-- EI and DI write EIE, bit 16 of Status, where EDI (bit 17), EXL or ERL is 1 or KSU is 00; else they have no effect. They are
never unusable. -/
def Obligations.EiDiSwitchEieWhereAllowed : Prop :=
  ∀ s : State,
    let allowed := s.statusBit 17 || s.statusBit 1 || s.statusBit 2 || (s.cop0.status.extractLsb' 3 2 == 0)
    let sets (i : Instr) (v : Bool) :=
      if allowed then Completes i s [.status] fun t => ∀ k, t.statusBit k = if k = 16 then v else s.statusBit k
      else OnlyAdvances i s
    sets .ei true ∧ sets .di false

/-- 46_trap_system_cop0.md R320: what MFC0 reads from each register number while coprocessor 0 is usable. Status and Cause read
with the fields that do not exist as 0 and IP[2], IP[3] as the lines; Count, PRId and the reserved numbers read values that the model
leaves free; the translation and cache numbers are refused. -/
def Obligations.Mfc0ReadsEachRegister : Prop :=
  ∀ (s : State) (rt : Reg), s.cop0Usable = true →
    let reads (n : Reg) (v : Word) := WritesLow (.mfc0 rt n) s rt (v.signExtend 64)
    let draws (n : Reg) (v : Word) :=
      Completes (.mfc0 rt n) s [.gprLow rt, .draws] fun t =>
        t.readD rt = afterWrite rt (v.signExtend 64) ∧ t.draws = s.draws + 1
    reads 8 s.cop0.badVAddr ∧ reads 11 s.cop0.compare ∧ reads 14 s.cop0.epc ∧ reads 23 s.cop0.badPAddr ∧
    reads 30 s.cop0.errorEpc ∧ reads 16 (s.cop0.config &&& 0x70073FC7) ∧ reads 12 (s.cop0.status &&& 0xF0C79C1F) ∧
    (∃ w, reads 13 w ∧ ∀ k, w.getLsbD k =
      if k = 10 then s.int0 else if k = 11 then s.int1 else s.cop0.cause.getLsbD k && (0xF007807C : Word).getLsbD k) ∧
    (∃ w : BitVec 16, ∀ (s' : State) (r : Reg), s'.cop0Usable = true →
      WritesLow (.mfc0 r 15) s' r ((0#16 ++ w).signExtend 64)) ∧
    draws 9 (Config.count s.draws) ∧ (∀ n ∈ [7, 17, 18, 19, 20, 21, 22, 26, 27, 31], draws n (Config.c0Reserved s.draws)) ∧
    (∀ n ∈ [0, 1, 2, 3, 4, 5, 6, 10, 28, 29], exec (.mfc0 rt n) s = .refused (.translationRegister n))

/-- 46_trap_system_cop0.md R321: what MTC0 does to each register number while coprocessor 0 is usable. Status takes the fields that
exist, but the reserved mode KSU = 11 is refused; a write of Compare also clears IP[7]; read-only and reserved numbers ignore the
write; Cause, Config and the translation and cache numbers are refused. -/
def Obligations.Mtc0WritesEachRegister : Prop :=
  ∀ (s : State) (rt : Reg), s.cop0Usable = true →
    let v := s.readW rt
    (if v.extractLsb' 3 2 = 3 then exec (.mtc0 rt 12) s = .refused .ksuReservedWrite
     else Completes (.mtc0 rt 12) s [.status] fun t => t.cop0.status = v &&& 0xF0C79C1F) ∧
    Completes (.mtc0 rt 14) s [.epc] (fun t => t.cop0.epc = v) ∧
    Completes (.mtc0 rt 30) s [.errorEpc] (fun t => t.cop0.errorEpc = v) ∧
    Completes (.mtc0 rt 9) s [.count] (fun t => t.cop0.count = v) ∧
    Completes (.mtc0 rt 11) s [.compare, .cause] (fun t => t.cop0.compare = v ∧
      ∀ k, t.cop0.cause.getLsbD k = (s.cop0.cause.getLsbD k && decide (k ≠ 15))) ∧
    (∀ n ∈ [7, 8, 15, 17, 18, 19, 20, 21, 22, 23, 26, 27, 31], OnlyAdvances (.mtc0 rt n) s) ∧
    exec (.mtc0 rt 13) s = .refused .causeWrite ∧ exec (.mtc0 rt 16) s = .refused .configWrite ∧
    (∀ n ∈ [0, 1, 2, 3, 4, 5, 6, 10, 28, 29], exec (.mtc0 rt n) s = .refused (.translationRegister n))

/-- The branches on the coprocessor conditions, outside a delay slot, while their coprocessor is usable: BC1 on the C bit of FCR31
(bit 23), BC0 on a condition that the environment draws. -/
def Obligations.CoprocessorBranchesTransfer : Prop :=
  ∀ (s : State) (offset : BitVec 16), s.bd = false →
    let c1 := s.fcr31.getLsbD 23
    let c0 := Config.cpCond0 s.draws
    let goes1 (i : Instr) (taken likely : Bool) := Branches i s taken likely offset [] fun _ => True
    let goes0 (i : Instr) (taken likely : Bool) := Branches i s taken likely offset [.draws] fun t => t.draws = s.draws + 1
    (s.cop1Usable = true →
      goes1 (.bc1f offset) (!c1) false ∧ goes1 (.bc1fl offset) (!c1) true ∧
      goes1 (.bc1t offset) c1 false ∧ goes1 (.bc1tl offset) c1 true) ∧
    (s.cop0Usable = true →
      goes0 (.bc0f offset) (!c0) false ∧ goes0 (.bc0fl offset) (!c0) true ∧
      goes0 (.bc0t offset) c0 false ∧ goes0 (.bc0tl offset) c0 true)

/-- The moves of the breakpoint and performance registers while coprocessor 0 is usable: 32 bits, sign-extended into a register. An
MTBPC that would arm a breakpoint (bits 31:29) and an MTPS that would set CTE (bit 31) are refused; a counter read while CTE is 1 is
free; the selectors that name no register are refused. -/
def Obligations.DebugAndPerformanceMovesCopy : Prop :=
  ∀ (s : State) (rt : Reg) (reg : BitVec 5), s.cop0Usable = true →
    let v := s.readW rt
    let counting := s.perf.pccr.getLsbD 31
    let reads (n : BitVec 5) (p : Word) :=
      if counting then Completes (.mfpc rt n) s [.gprLow rt, .draws] fun t => t.draws = s.draws + 1
      else WritesLow (.mfpc rt n) s rt (p.signExtend 64)
    WritesLow (.mfbpc rt) s rt (s.dbg.bpc.signExtend 64) ∧ WritesLow (.mfiab rt) s rt (s.dbg.iab.signExtend 64) ∧
    WritesLow (.mfiabm rt) s rt (s.dbg.iabm.signExtend 64) ∧ WritesLow (.mfdab rt) s rt (s.dbg.dab.signExtend 64) ∧
    WritesLow (.mfdabm rt) s rt (s.dbg.dabm.signExtend 64) ∧ WritesLow (.mfdvb rt) s rt (s.dbg.dvb.signExtend 64) ∧
    WritesLow (.mfdvbm rt) s rt (s.dbg.dvbm.signExtend 64) ∧
    (if v.getLsbD 29 || v.getLsbD 30 || v.getLsbD 31 then exec (.mtbpc rt) s = .refused .breakpointEnable
     else Completes (.mtbpc rt) s [.bpc] fun t => t.dbg.bpc = v) ∧
    Completes (.mtiab rt) s [.iab] (fun t => t.dbg.iab = v) ∧ Completes (.mtdab rt) s [.dab] (fun t => t.dbg.dab = v) ∧
    Completes (.mtdabm rt) s [.dabm] (fun t => t.dbg.dabm = v) ∧ Completes (.mtdvb rt) s [.dvb] (fun t => t.dbg.dvb = v) ∧
    Completes (.mtdvbm rt) s [.dvbm] (fun t => t.dbg.dvbm = v) ∧
    reads 0 s.perf.pcr0 ∧ reads 1 s.perf.pcr1 ∧
    Completes (.mtpc rt 0) s [.pcr0] (fun t => t.perf.pcr0 = v) ∧
    Completes (.mtpc rt 1) s [.pcr1] (fun t => t.perf.pcr1 = v) ∧
    WritesLow (.mfps rt 0) s rt (s.perf.pccr.signExtend 64) ∧
    (if v.getLsbD 31 then exec (.mtps rt 0) s = .refused .counterEnable
     else Completes (.mtps rt 0) s [.pccr] fun t => t.perf.pccr = v) ∧
    (2 ≤ reg.toNat → ∀ i ∈ [Instr.mfpc rt reg, .mtpc rt reg], exec i s = .refused (.performanceSelector reg)) ∧
    (reg ≠ 0 → ∀ i ∈ [Instr.mfps rt reg, .mtps rt reg], exec i s = .refused (.performanceSelector reg))

/-- 60_exceptions.md R562: outside kernel mode and with CU[0] (bit 28 of Status) clear, every coprocessor-0 instruction but EI and
DI raises CoprocessorUnusable (code 11) with 0 in Cause.CE, and has no other effect. -/
def Obligations.Cop0InstructionsNeedCop0 : Prop :=
  ∀ (s : State) (rt rd : Reg) (reg : BitVec 5) (offset : BitVec 16), s.mode ≠ .kernel → s.statusBit 28 = false →
    ∀ i ∈ [Instr.eret, .mfc0 rt rd, .mtc0 rt rd, .bc0f offset, .bc0fl offset, .bc0t offset, .bc0tl offset,
        .mfbpc rt, .mfiab rt, .mfiabm rt, .mfdab rt, .mfdabm rt, .mfdvb rt, .mfdvbm rt,
        .mtbpc rt, .mtiab rt, .mtdab rt, .mtdabm rt, .mtdvb rt, .mtdvbm rt,
        .mfpc rt reg, .mfps rt reg, .mtpc rt reg, .mtps rt reg],
      Raises i s 11 (some 0)

/-- 60_exceptions.md R562: with CU[1] (bit 29 of Status) clear, in every mode, every floating-point instruction raises
CoprocessorUnusable (code 11) with 1 in Cause.CE, and has no other effect; loads and stores do so before any address check. -/
def Obligations.FloatingPointInstructionsNeedCop1 : Prop :=
  ∀ (s : State) (rt ft fs fd base : Reg) (offset : BitVec 16), s.statusBit 29 = false →
    ∀ i ∈ [Instr.mfc1 rt fs, .mtc1 rt fs, .cfc1 rt fs, .ctc1 rt fs, .lwc1 base ft offset, .swc1 base ft offset,
        .movS fs fd, .absS fs fd, .negS fs fd, .cFS ft fs, .cEqS ft fs, .cLtS ft fs, .cLeS ft fs,
        .bc1f offset, .bc1fl offset, .bc1t offset, .bc1tl offset, .addS ft fs fd, .subS ft fs fd, .mulS ft fs fd,
        .divS ft fs fd, .sqrtS ft fd, .rsqrtS ft fs fd, .maxS ft fs fd, .minS ft fs fd, .mulaS ft fs, .subaS ft fs,
        .maddS ft fs fd, .msubS ft fs fd, .maddaS ft fs, .msubaS ft fs, .cvtSW fs fd, .cvtWS fs fd],
      Raises i s 11 (some 1)

/-! ## Floating point -/

/-- MFC1, MTC1, MOV.S copy 32 bits; CFC1 reads FCR0 (a constant of the part), FCR31 with its fixed bits, and a free value for a
reserved number; CTC1 writes the writable bits of FCR31 and ignores other numbers; CVT.S.W and CVT.W.S write the value that
`FpNumerics` leaves open and no flag. -/
def Obligations.FloatingPointMovesCopy : Prop :=
  ∀ (s : State) (rt fs fd : Reg), s.cop1Usable = true →
    WritesLow (.mfc1 rt fs) s rt ((s.readF fs).signExtend 64) ∧
    Completes (.mtc1 rt fs) s [.fpr fs] (fun t => t.readF fs = s.readW rt) ∧
    Completes (.movS fs fd) s [.fpr fd] (fun t => t.readF fd = s.readF fs) ∧
    WritesLow (.cfc1 rt 31) s rt (((s.fcr31 &&& 0x0083C078) ||| 0x01000001).signExtend 64) ∧
    WritesLow (.cfc1 rt 0) s rt ((0#16 ++ Config.fcr016).signExtend 64) ∧
    (fs ≠ 0 → fs ≠ 31 → Completes (.cfc1 rt fs) s [.gprLow rt, .draws] fun t =>
      t.readD rt = afterWrite rt ((Config.fcrReserved fs s.draws).signExtend 64) ∧ t.draws = s.draws + 1) ∧
    Completes (.ctc1 rt 31) s [.fcr31] (fun t => t.fcr31 = (s.readW rt &&& 0x0083C078) ||| 0x01000001) ∧
    (fs ≠ 31 → OnlyAdvances (.ctc1 rt fs) s) ∧
    Completes (.cvtSW fs fd) s [.fpr fd] (fun t => t.readF fd = (Config.cvtSW (s.readF fs)).1) ∧
    Completes (.cvtWS fs fd) s [.fpr fd] (fun t => t.readF fd = (Config.cvtWS (s.readF fs)).1)

/-- The floating-point arithmetic: the operands, the destination and which flags each instruction owns (47_fpu.md R351): O and U for
the sums and products, cleared by ABS.S, NEG.S, MAX.S, MIN.S; I and D for DIV.S, SQRT.S, RSQRT.S; sticky flags only ever set. The
numeric functions are left open (log entry 10), but MAX.S and MIN.S write one of their operands, and ABS.S clears and NEG.S inverts
the sign bit. -/
def Obligations.FloatingPointArithmeticWritesItsFlags : Prop :=
  ∀ (s : State) (ft fs fd : Reg), s.cop1Usable = true →
    let a := s.readF fs
    let b := s.readF ft
    FloatsOU (.addS ft fs fd) s fd (Config.fadd a b) ∧ FloatsOU (.subS ft fs fd) s fd (Config.fsub a b) ∧
    FloatsOU (.mulS ft fs fd) s fd (Config.fmul a b) ∧ FloatsID (.divS ft fs fd) s fd (Config.fdiv a b) ∧
    FloatsID (.sqrtS ft fd) s fd (Config.fsqrt b) ∧ FloatsID (.rsqrtS ft fs fd) s fd (Config.frsqrt a b) ∧
    (∃ r : Word, FloatsOU (.maxS ft fs fd) s fd (r, noFpFlags) ∧ (r = a ∨ r = b)) ∧
    (∃ r : Word, FloatsOU (.minS ft fs fd) s fd (r, noFpFlags) ∧ (r = a ∨ r = b)) ∧
    FloatsOU (.maddS ft fs fd) s fd (Config.fmadd s.acc a b) ∧ FloatsOU (.msubS ft fs fd) s fd (Config.fmsub s.acc a b) ∧
    Accumulates (.mulaS ft fs) s (Config.fmul a b) ∧ Accumulates (.subaS ft fs) s (Config.fsub a b) ∧
    Accumulates (.maddaS ft fs) s (Config.fmadd s.acc a b) ∧ Accumulates (.msubaS ft fs) s (Config.fmsub s.acc a b) ∧
    (∃ r : Word, FloatsOU (.absS fs fd) s fd (r, noFpFlags) ∧
      ∀ k, r.getLsbD k = (a.getLsbD k && decide (k ≠ 31))) ∧
    (∃ r : Word, FloatsOU (.negS fs fd) s fd (r, noFpFlags) ∧
      ∀ k, k < 32 → r.getLsbD k = (a.getLsbD k != decide (k = 31)))

/-- C.F.S, C.EQ.S, C.LT.S, C.LE.S write the C bit and no other: C.F.S clears it; a pattern equals itself; two normal numbers compare
as their sign and magnitude say; on other operands the values of feq and flt are left open (log entry 11), and C.LE.S is their
disjunction. -/
def Obligations.FloatingPointComparesWriteC : Prop :=
  ∀ (s : State) (ft fs : Reg), s.cop1Usable = true →
    let a := s.readF fs
    let b := s.readF ft
    let normal (v : Word) := 1 ≤ (v.toNat / 2 ^ 23) % 256 ∧ (v.toNat / 2 ^ 23) % 256 ≤ 254
    let key (v : Word) : Int := if v.getLsbD 31 then -(v.toNat % 2 ^ 31 : Nat) else (v.toNat % 2 ^ 31 : Nat)
    Compares (.cFS ft fs) s false ∧
    (∃ eq lt : Bool, Compares (.cEqS ft fs) s eq ∧ Compares (.cLtS ft fs) s lt ∧ Compares (.cLeS ft fs) s (lt || eq) ∧
      (a = b → eq = true) ∧
      (normal a → normal b → (eq = true ↔ key a = key b) ∧ (lt = true ↔ key a < key b)))

/-- LWC1 and SWC1: the word between ordinary memory and `f[ft]` at an aligned address. Misaligned or forbidden they raise AddressErrorLoad
(4) or AddressErrorStore (5); in the reserved mode an aligned one stops (log entry 18); where the map has nothing they raise
BusErrorData (7) while BEM, bit 12 of Status, is 0, and stop while it is 1 (log entry 17). From a device LWC1 loads a word that the
model leaves free and SWC1 changes no byte (log entry 5). What the map has: log entry 4. The address in BadPAddr: log entry 16. -/
def Obligations.FloatingPointLoadsAndStores : Prop :=
  ∀ (s : State) (base ft : Reg) (offset : BitVec 16), s.cop1Usable = true →
    let ea := s.effAddr base offset
    let raises (code : Nat) (i : Instr) := Raises i s code none (some ea)
    (ea.toNat % 4 ≠ 0 ∨ (s.mode ≠ .reserved ∧ segmentAllows s.mode ea = false) →
      raises 4 (.lwc1 base ft offset) ∧ raises 5 (.swc1 base ft offset)) ∧
    (ea.toNat % 4 = 0 → s.mode = .reserved →
      exec (.lwc1 base ft offset) s = .fault .ksuReserved ∧ exec (.swc1 base ft offset) s = .fault .ksuReserved) ∧
    (ea.toNat % 4 = 0 → segmentAllows s.mode ea = true →
      (MapGives s .load ea 4 .ram →
        Completes (.lwc1 base ft offset) s [.fpr ft] fun t => (t.readF ft).toNat = littleEndian s.mem ea 4) ∧
      (Memory.wf s.mem = true → MapGives s .store ea 4 .ram →
        Stores (.swc1 base ft offset) s ea 4 fun k => byteOf (s.readF ft) k) ∧
      (MapGives s .load ea 4 .absent → if s.statusBit 12 then exec (.lwc1 base ft offset) s = .fault .busErrorMasked
        else Raises (.lwc1 base ft offset) s 7 none none (some ea)) ∧
      (MapGives s .store ea 4 .absent → if s.statusBit 12 then exec (.swc1 base ft offset) s = .fault .busErrorMasked
        else Raises (.swc1 base ft offset) s 7 none none (some ea)) ∧
      (MapGives s .load ea 4 .device → Completes (.lwc1 base ft offset) s [.fpr ft, .draws] fun t => t.draws = s.draws + 1) ∧
      (MapGives s .store ea 4 .device → CompletesIn (.swc1 base ft offset) s (InMarks ea 4) fun t => t.mem = s.mem))

/-! ## Parallel instructions -/

/-- The parallel sums and differences, lane by lane: modulo 2^w, or clamped to the signed or unsigned range of the lane; PADSBH
subtracts in lanes 0 to 3 and adds in lanes 4 to 7. -/
def Obligations.ParallelSumsWrapOrSaturate : Prop :=
  ∀ (s : State) (rs rt rd : Reg),
    let a (w k : Nat) := (lane w (s.readQ rs) k).toInt
    let b (w k : Nat) := (lane w (s.readQ rt) k).toInt
    let ua (w k : Nat) : Int := (lane w (s.readQ rs) k).toNat
    let ub (w k : Nat) : Int := (lane w (s.readQ rt) k).toNat
    let sums (w n : Nat) (i : Instr) (f : Nat → Int) := WritesLanes w n i s rd fun k => BitVec.ofInt w (f k)
    let sat (w : Nat) := clamp (-2 ^ (w - 1)) (2 ^ (w - 1) - 1)
    let usat (w : Nat) := clamp 0 (2 ^ w - 1)
    sums 8 16 (.paddb rs rt rd) (fun k => a 8 k + b 8 k) ∧ sums 16 8 (.paddh rs rt rd) (fun k => a 16 k + b 16 k) ∧
    sums 32 4 (.paddw rs rt rd) (fun k => a 32 k + b 32 k) ∧
    sums 8 16 (.psubb rs rt rd) (fun k => a 8 k - b 8 k) ∧ sums 16 8 (.psubh rs rt rd) (fun k => a 16 k - b 16 k) ∧
    sums 32 4 (.psubw rs rt rd) (fun k => a 32 k - b 32 k) ∧
    sums 8 16 (.paddsb rs rt rd) (fun k => sat 8 (a 8 k + b 8 k)) ∧
    sums 16 8 (.paddsh rs rt rd) (fun k => sat 16 (a 16 k + b 16 k)) ∧
    sums 32 4 (.paddsw rs rt rd) (fun k => sat 32 (a 32 k + b 32 k)) ∧
    sums 8 16 (.psubsb rs rt rd) (fun k => sat 8 (a 8 k - b 8 k)) ∧
    sums 16 8 (.psubsh rs rt rd) (fun k => sat 16 (a 16 k - b 16 k)) ∧
    sums 32 4 (.psubsw rs rt rd) (fun k => sat 32 (a 32 k - b 32 k)) ∧
    sums 8 16 (.paddub rs rt rd) (fun k => usat 8 (ua 8 k + ub 8 k)) ∧
    sums 16 8 (.padduh rs rt rd) (fun k => usat 16 (ua 16 k + ub 16 k)) ∧
    sums 32 4 (.padduw rs rt rd) (fun k => usat 32 (ua 32 k + ub 32 k)) ∧
    sums 8 16 (.psubub rs rt rd) (fun k => usat 8 (ua 8 k - ub 8 k)) ∧
    sums 16 8 (.psubuh rs rt rd) (fun k => usat 16 (ua 16 k - ub 16 k)) ∧
    sums 32 4 (.psubuw rs rt rd) (fun k => usat 32 (ua 32 k - ub 32 k)) ∧
    sums 16 8 (.padsbh rs rt rd) (fun k => if k ≤ 3 then a 16 k - b 16 k else a 16 k + b 16 k)

/-- The parallel absolute values, extremes and comparisons, lane by lane and signed: an absolute value that does not fit becomes the
most positive one; a comparison gives all ones or all zeros. -/
def Obligations.ParallelComparesSelect : Prop :=
  ∀ (s : State) (rs rt rd : Reg),
    let a (w k : Nat) := (lane w (s.readQ rs) k).toInt
    let b (w k : Nat) := (lane w (s.readQ rt) k).toInt
    let gives (w n : Nat) (i : Instr) (f : Nat → Int) := WritesLanes w n i s rd fun k => BitVec.ofInt w (f k)
    gives 16 8 (.pabsh rt rd) (fun k => min (b 16 k).natAbs (2 ^ 15 - 1)) ∧
    gives 32 4 (.pabsw rt rd) (fun k => min (b 32 k).natAbs (2 ^ 31 - 1)) ∧
    gives 16 8 (.pmaxh rs rt rd) (fun k => max (a 16 k) (b 16 k)) ∧ gives 32 4 (.pmaxw rs rt rd) (fun k => max (a 32 k) (b 32 k)) ∧
    gives 16 8 (.pminh rs rt rd) (fun k => min (a 16 k) (b 16 k)) ∧ gives 32 4 (.pminw rs rt rd) (fun k => min (a 32 k) (b 32 k)) ∧
    gives 8 16 (.pceqb rs rt rd) (fun k => if a 8 k = b 8 k then -1 else 0) ∧
    gives 16 8 (.pceqh rs rt rd) (fun k => if a 16 k = b 16 k then -1 else 0) ∧
    gives 32 4 (.pceqw rs rt rd) (fun k => if a 32 k = b 32 k then -1 else 0) ∧
    gives 8 16 (.pcgtb rs rt rd) (fun k => if a 8 k > b 8 k then -1 else 0) ∧
    gives 16 8 (.pcgth rs rt rd) (fun k => if a 16 k > b 16 k then -1 else 0) ∧
    gives 32 4 (.pcgtw rs rt rd) (fun k => if a 32 k > b 32 k then -1 else 0)

/-- PAND, PXOR, PNOR on 128 bits, bit by bit; the parallel shifts by an immediate: every lane scaled by a power of 2, halfwords by
the immediate modulo 16; PSLLVW, PSRLVW, PSRAVW: word lanes 0 and 2, by the amounts in the same lanes of `rs` modulo 32, sign-extended
to doublewords. -/
def Obligations.ParallelLogicAndShifts : Prop :=
  ∀ (s : State) (rs rt rd : Reg) (sa : BitVec 5),
    let bits (i : Instr) (f : Nat → Bool) := Completes i s [.gprLow rd, .gprHigh rd] fun t =>
      ∀ k, k < 128 → (t.readQ rd).getLsbD k = (decide (rd ≠ 0) && f k)
    let x := fun k => (s.readQ rs).getLsbD k
    let y := fun k => (s.readQ rt).getLsbD k
    let u (w k : Nat) := (lane w (s.readQ rt) k).toNat
    let v (w k : Nat) := (lane w (s.readQ rt) k).toInt
    let h := sa.toNat % 16
    let n := sa.toNat
    let amount (k : Nat) := (lane 32 (s.readQ rs) k).toNat % 32
    let pair (i : Instr) (f : Nat → Int) := WritesLanes 64 2 i s rd fun j => signedWord (f (2 * j))
    bits (.pand rs rt rd) (fun k => x k && y k) ∧ bits (.pxor rs rt rd) (fun k => x k != y k) ∧
    bits (.pnor rs rt rd) (fun k => !(x k || y k)) ∧
    WritesLanes 16 8 (.psllh rt rd sa) s rd (fun k => BitVec.ofNat 16 (u 16 k * 2 ^ h)) ∧
    WritesLanes 16 8 (.psrlh rt rd sa) s rd (fun k => BitVec.ofNat 16 (u 16 k / 2 ^ h)) ∧
    WritesLanes 16 8 (.psrah rt rd sa) s rd (fun k => BitVec.ofInt 16 (v 16 k / 2 ^ h)) ∧
    WritesLanes 32 4 (.psllw rt rd sa) s rd (fun k => BitVec.ofNat 32 (u 32 k * 2 ^ n)) ∧
    WritesLanes 32 4 (.psrlw rt rd sa) s rd (fun k => BitVec.ofNat 32 (u 32 k / 2 ^ n)) ∧
    WritesLanes 32 4 (.psraw rt rd sa) s rd (fun k => BitVec.ofInt 32 (v 32 k / 2 ^ n)) ∧
    pair (.psllvw rs rt rd) (fun k => u 32 k * 2 ^ amount k) ∧
    pair (.psrlvw rs rt rd) (fun k => (u 32 k / 2 ^ amount k : Nat)) ∧
    pair (.psravw rs rt rd) (fun k => v 32 k / 2 ^ amount k)

/-- PMULTW, PMULTUW, PMADDW, PMADDUW, PMSUBW: word lanes 0 and 2 multiplied, added to or taken from the accumulators of the same
lanes of HI and LO. -/
def Obligations.ParallelWordProducts : Prop :=
  ∀ (s : State) (rs rt rd : Reg),
    let signed (k : Nat) := (lane 32 (s.readQ rs) k).toInt * (lane 32 (s.readQ rt) k).toInt
    let unsigned (k : Nat) : Int := (lane 32 (s.readQ rs) k).toNat * (lane 32 (s.readQ rt) k).toNat
    let acc (k : Nat) := accumulated s k
    MultipliesPair (.pmultw rs rt rd) s rd (signed 0) (signed 2) ∧
    MultipliesPair (.pmultuw rs rt rd) s rd (unsigned 0) (unsigned 2) ∧
    MultipliesPair (.pmaddw rs rt rd) s rd (acc 0 + signed 0) (acc 2 + signed 2) ∧
    MultipliesPair (.pmadduw rs rt rd) s rd (acc 0 + unsigned 0) (acc 2 + unsigned 2) ∧
    MultipliesPair (.pmsubw rs rt rd) s rd (acc 0 - signed 0) (acc 2 - signed 2)

/-- PMULTH, PMADDH, PMSUBH: the eight halfword products in the slots of 49_parallel_muldiv_pack.md R460, added to or taken from what
the slots hold; PHMADH, PHMSBH: sums and differences of neighbouring products, the odd word lanes of LO and HI left free. -/
def Obligations.ParallelHalfwordProducts : Prop :=
  ∀ (s : State) (rs rt rd : Reg),
    let slot (k : Nat) : Int := (([lane 32 s.lo 0, lane 32 s.lo 1, lane 32 s.hi 0, lane 32 s.hi 1, lane 32 s.lo 2,
      lane 32 s.lo 3, lane 32 s.hi 2, lane 32 s.hi 3] : List Word).getD k 0).toInt
    let p := halves s rs rt
    FillsSlots (.pmulth rs rt rd) s rd p ∧ FillsSlots (.pmaddh rs rt rd) s rd (fun k => slot k + p k) ∧
    FillsSlots (.pmsubh rs rt rd) s rd (fun k => slot k - p k) ∧
    FillsEvenSlots (.phmadh rs rt rd) s rd (fun j => p (2 * j + 1) + p (2 * j)) ∧
    FillsEvenSlots (.phmsbh rs rt rd) s rd (fun j => p (2 * j + 1) - p (2 * j))

/-- PDIVW, PDIVUW: the divisions of word lanes 0 and 2; PDIVBW: four divisions by one halfword, the remainders kept to 16 bits. Where
the divisor is not 0 (and the quotient of PDIVW fits) the results are those of exact division rounded toward zero; else they are
the constants that `DivCorner` leaves open. They write all of LO and HI. -/
def Obligations.ParallelDivides : Prop :=
  ∀ (s : State) (rs rt : Reg),
    let changed : List View := [.hiLow, .hiHigh, .loLow, .loHigh]
    let n (k : Nat) := (lane 32 (s.readQ rs) k).toInt
    let d (k : Nat) := (lane 32 (s.readQ rt) k).toInt
    let un (k : Nat) := (lane 32 (s.readQ rs) k).toNat
    let ud (k : Nat) := (lane 32 (s.readQ rt) k).toNat
    let b := (lane 16 (s.readQ rt) 0).toInt
    let signedPair (k : Nat) : Int × Int :=
      if d k = 0 then Config.divCorner .divByZero (n k) (d k)
      else if n k = -2 ^ 31 ∧ d k = -1 then Config.divCorner .divOverflow (n k) (d k)
      else ((n k).tdiv (d k), n k - (n k).tdiv (d k) * d k)
    let unsignedPair (k : Nat) : Int × Int :=
      if ud k = 0 then Config.divCorner .divuByZero (un k) (ud k) else ((un k : Int) / ud k, (un k : Int) % ud k)
    let broadcast (k : Nat) : Int × Int :=
      if b = 0 then Config.divCorner .pdivbwByZero (n k) b else ((n k).tdiv b, n k - (n k).tdiv b * b)
    Completes (.pdivw rs rt) s changed (fun t => ∀ j, j < 2 →
      lane 64 t.lo j = signedWord (signedPair (2 * j)).1 ∧ lane 64 t.hi j = signedWord (signedPair (2 * j)).2) ∧
    Completes (.pdivuw rs rt) s changed (fun t => ∀ j, j < 2 →
      lane 64 t.lo j = signedWord (unsignedPair (2 * j)).1 ∧ lane 64 t.hi j = signedWord (unsignedPair (2 * j)).2) ∧
    Completes (.pdivbw rs rt) s changed (fun t => ∀ k, k < 4 →
      lane 32 t.lo k = BitVec.ofInt 32 (broadcast k).1 ∧
      lane 32 t.hi k = BitVec.ofInt 32 ((broadcast k).2.bmod (2 ^ 16)))

/-- The moves of HI, LO, HI1 and LO1: 64 bits, each writing its own half only. PMFHI, PMFLO, PMTHI, PMTLO move 128 bits; PMFHL
gathers the lower or upper words, the low halfwords of the slots, the slots saturated to halfwords, or the accumulators saturated
to words; PMTHL.LW writes the even word lanes and keeps the odd ones. -/
def Obligations.HiLoMovesKeepTheRest : Prop :=
  ∀ (s : State) (rs rd : Reg),
    let slots : List Word := [lane 32 s.lo 0, lane 32 s.lo 1, lane 32 s.hi 0, lane 32 s.hi 1, lane 32 s.lo 2, lane 32 s.lo 3,
      lane 32 s.hi 2, lane 32 s.hi 3]
    let words (i : Instr) (v : List Word) := WritesLanes 32 4 i s rd fun k => v.getD k 0
    WritesLow (.mfhi rd) s rd (lowD s.hi) ∧ WritesLow (.mflo rd) s rd (lowD s.lo) ∧
    WritesLow (.mfhi1 rd) s rd (highD s.hi) ∧ WritesLow (.mflo1 rd) s rd (highD s.lo) ∧
    Completes (.mthi rs) s [.hiLow] (fun t => lowD t.hi = s.readD rs) ∧
    Completes (.mtlo rs) s [.loLow] (fun t => lowD t.lo = s.readD rs) ∧
    Completes (.mthi1 rs) s [.hiHigh] (fun t => highD t.hi = s.readD rs) ∧
    Completes (.mtlo1 rs) s [.loHigh] (fun t => highD t.lo = s.readD rs) ∧
    WritesLanes 64 2 (.pmfhi rd) s rd (fun k => lane 64 s.hi k) ∧ WritesLanes 64 2 (.pmflo rd) s rd (fun k => lane 64 s.lo k) ∧
    Completes (.pmthi rs) s [.hiLow, .hiHigh] (fun t => t.hi = s.readQ rs) ∧
    Completes (.pmtlo rs) s [.loLow, .loHigh] (fun t => t.lo = s.readQ rs) ∧
    words (.pmfhlLw rd) [lane 32 s.lo 0, lane 32 s.hi 0, lane 32 s.lo 2, lane 32 s.hi 2] ∧
    words (.pmfhlUw rd) [lane 32 s.lo 1, lane 32 s.hi 1, lane 32 s.lo 3, lane 32 s.hi 3] ∧
    WritesLanes 16 8 (.pmfhlLh rd) s rd (fun k => (slots.getD k 0).setWidth 16) ∧
    WritesLanes 16 8 (.pmfhlSh rd) s rd (fun k => BitVec.ofInt 16 (clamp (-2 ^ 15) (2 ^ 15 - 1) (slots.getD k 0).toInt)) ∧
    WritesLanes 64 2 (.pmfhlSlw rd) s rd
      (fun j => BitVec.ofInt 64 (clamp (-2 ^ 31) (2 ^ 31 - 1) (accumulated s (2 * j)))) ∧
    Completes (.pmthlLw rs) s [.hiLow, .hiHigh, .loLow, .loHigh] (fun t =>
      lane 32 t.lo 0 = lane 32 (s.readQ rs) 0 ∧ lane 32 t.hi 0 = lane 32 (s.readQ rs) 1 ∧
      lane 32 t.lo 2 = lane 32 (s.readQ rs) 2 ∧ lane 32 t.hi 2 = lane 32 (s.readQ rs) 3 ∧
      lane 32 t.lo 1 = lane 32 s.lo 1 ∧ lane 32 t.hi 1 = lane 32 s.hi 1 ∧
      lane 32 t.lo 3 = lane 32 s.lo 3 ∧ lane 32 t.hi 3 = lane 32 s.hi 3)

/-- The parallel extend, pack, copy, exchange, interleave, reverse and rotate instructions: from which lane of which source each lane
of the result comes. -/
def Obligations.ParallelPermutationsPlaceLanes : Prop :=
  ∀ (s : State) (rs rt rd : Reg),
    let moves (w n : Nat) (i : Instr) (v : List (Reg × Nat)) := Shuffles w n i s rd v
    moves 8 16 (.pextlb rs rt rd) [(rt, 0), (rs, 0), (rt, 1), (rs, 1), (rt, 2), (rs, 2), (rt, 3), (rs, 3),
      (rt, 4), (rs, 4), (rt, 5), (rs, 5), (rt, 6), (rs, 6), (rt, 7), (rs, 7)] ∧
    moves 8 16 (.pextub rs rt rd) [(rt, 8), (rs, 8), (rt, 9), (rs, 9), (rt, 10), (rs, 10), (rt, 11), (rs, 11),
      (rt, 12), (rs, 12), (rt, 13), (rs, 13), (rt, 14), (rs, 14), (rt, 15), (rs, 15)] ∧
    moves 16 8 (.pextlh rs rt rd) [(rt, 0), (rs, 0), (rt, 1), (rs, 1), (rt, 2), (rs, 2), (rt, 3), (rs, 3)] ∧
    moves 16 8 (.pextuh rs rt rd) [(rt, 4), (rs, 4), (rt, 5), (rs, 5), (rt, 6), (rs, 6), (rt, 7), (rs, 7)] ∧
    moves 32 4 (.pextlw rs rt rd) [(rt, 0), (rs, 0), (rt, 1), (rs, 1)] ∧
    moves 32 4 (.pextuw rs rt rd) [(rt, 2), (rs, 2), (rt, 3), (rs, 3)] ∧
    moves 8 16 (.ppacb rs rt rd) [(rt, 0), (rt, 2), (rt, 4), (rt, 6), (rt, 8), (rt, 10), (rt, 12), (rt, 14),
      (rs, 0), (rs, 2), (rs, 4), (rs, 6), (rs, 8), (rs, 10), (rs, 12), (rs, 14)] ∧
    moves 16 8 (.ppach rs rt rd) [(rt, 0), (rt, 2), (rt, 4), (rt, 6), (rs, 0), (rs, 2), (rs, 4), (rs, 6)] ∧
    moves 32 4 (.ppacw rs rt rd) [(rt, 0), (rt, 2), (rs, 0), (rs, 2)] ∧
    moves 16 8 (.pcpyh rt rd) [(rt, 0), (rt, 0), (rt, 0), (rt, 0), (rt, 4), (rt, 4), (rt, 4), (rt, 4)] ∧
    moves 64 2 (.pcpyld rs rt rd) [(rt, 0), (rs, 0)] ∧ moves 64 2 (.pcpyud rs rt rd) [(rs, 1), (rt, 1)] ∧
    moves 16 8 (.pexch rt rd) [(rt, 0), (rt, 2), (rt, 1), (rt, 3), (rt, 4), (rt, 6), (rt, 5), (rt, 7)] ∧
    moves 32 4 (.pexcw rt rd) [(rt, 0), (rt, 2), (rt, 1), (rt, 3)] ∧
    moves 16 8 (.pexeh rt rd) [(rt, 2), (rt, 1), (rt, 0), (rt, 3), (rt, 6), (rt, 5), (rt, 4), (rt, 7)] ∧
    moves 32 4 (.pexew rt rd) [(rt, 2), (rt, 1), (rt, 0), (rt, 3)] ∧
    moves 16 8 (.pinth rs rt rd) [(rt, 0), (rs, 4), (rt, 1), (rs, 5), (rt, 2), (rs, 6), (rt, 3), (rs, 7)] ∧
    moves 16 8 (.pinteh rs rt rd) [(rt, 0), (rs, 0), (rt, 2), (rs, 2), (rt, 4), (rs, 4), (rt, 6), (rs, 6)] ∧
    moves 16 8 (.prevh rt rd) [(rt, 3), (rt, 2), (rt, 1), (rt, 0), (rt, 7), (rt, 6), (rt, 5), (rt, 4)] ∧
    moves 32 4 (.prot3w rt rd) [(rt, 1), (rt, 2), (rt, 0), (rt, 3)]

/-- PEXT5 and PPAC5, word by word, in numbers: the 1-5-5-5 fields of the low halfword spread over the top bits of four bytes, and
back; PLZCW: for each of the two lower words, the number c of bits below the sign bit that equal it before the first that differs;
bits 127:64 of its destination keep their value. -/
def Obligations.PixelPackingAndLeadingCount : Prop :=
  ∀ (s : State) (rs rt rd : Reg),
    let w (k : Nat) := (lane 32 (s.readQ rt) k).toNat
    WritesLanes 32 4 (.pext5 rt rd) s rd (fun k => BitVec.ofNat 32 (w k % 2 ^ 5 * 2 ^ 3 + w k / 2 ^ 5 % 2 ^ 5 * 2 ^ 11
      + w k / 2 ^ 10 % 2 ^ 5 * 2 ^ 19 + w k / 2 ^ 15 % 2 * 2 ^ 31)) ∧
    WritesLanes 32 4 (.ppac5 rt rd) s rd (fun k => BitVec.ofNat 32 (w k / 2 ^ 3 % 2 ^ 5 + w k / 2 ^ 11 % 2 ^ 5 * 2 ^ 5
      + w k / 2 ^ 19 % 2 ^ 5 * 2 ^ 10 + w k / 2 ^ 31 % 2 * 2 ^ 15)) ∧
    ∃ c : Nat → Nat, Completes (.plzcw rs rd) s [.gprLow rd]
        (fun t => t.readD rd = afterWrite rd (BitVec.ofNat 64 (c 0 + c 1 * 2 ^ 32))) ∧
      ∀ k, k < 2 →
        let v := lane 32 (s.readQ rs) k
        c k ≤ 31 ∧ (∀ j, j < c k → v.getLsbD (30 - j) = v.getLsbD 31) ∧
          (c k < 31 → v.getLsbD (30 - c k) ≠ v.getLsbD 31)

/-- QFSRV: bits SA + 127 to SA of `rs ‖ rt`, SA being 8 times the byte count; MTSAB and MTSAH: the count is the exclusive or of the
low 4 (3) bits of register and immediate, in bytes (halfwords). -/
def Obligations.FunnelShiftUsesTheShiftAmount : Prop :=
  ∀ (s : State) (rs rt rd : Reg) (imm : BitVec 16),
    let pair := (s.readQ rs).toNat * 2 ^ 128 + (s.readQ rt).toNat
    let x := (s.readD rs).toNat
    WritesLanes 128 1 (.qfsrv rs rt rd) s rd (fun _ => BitVec.ofNat 128 (pair / 2 ^ (8 * s.saBytes.toNat))) ∧
    Completes (.mtsab rs imm) s [.sa] (fun t => t.saBytes.toNat = (x % 16) ^^^ (imm.toNat % 16)) ∧
    Completes (.mtsah rs imm) s [.sa] (fun t => t.saBytes.toNat = 2 * ((x % 8) ^^^ (imm.toNat % 8)))

/-- 49_parallel_muldiv_pack.md R531, R532: MFSA writes an image of SA that differs for different values of SA; MTSA of such an image
sets SA to the value it is the image of; MTSA of any other value sets SA to a value that the model leaves free (log entry 12). So
MFSA and then MTSA, whatever SA was set to in between, restore SA. -/
def Obligations.ShiftAmountIsSavedAndRestored : Prop :=
  ∃ image : BitVec 4 → Dword,
    (∀ j k, image j = image k → j = k) ∧
    (∀ (s : State) (rd : Reg), WritesLow (.mfsa rd) s rd (image s.saBytes)) ∧
    (∀ (s : State) (rs : Reg) (k : BitVec 4), s.readD rs = image k →
      Completes (.mtsa rs) s [.sa] fun t => t.saBytes = k) ∧
    (∀ (s : State) (rs : Reg), (∀ k, s.readD rs ≠ image k) →
      Completes (.mtsa rs) s [.sa, .draws] fun t => t.draws = s.draws + 1) ∧
    (∀ (s t u v : State) (r : Reg) (k : BitVec 4), r ≠ 0 → exec (.mfsa r) s = .next t → u = { t with saBytes := k } →
      exec (.mtsa r) u = .next v → v.saBytes = s.saBytes)
end

