-- ==== Sys2Proof/Laws/Encode.lean ====
section
/-! SUPPORT. The fields of an instruction word that was put together from its fields: what the encoder writes the decoder reads
back. -/

namespace Sys2Proof

/-- Reading bit `lo` and the `n` bits from it out of an append, one step at a time. -/
theorem extract_append_low {m k : Nat} (x : BitVec m) (y : BitVec k) (lo n : Nat) (h : lo + n ≤ k) :
    (x ++ y).extractLsb' lo n = y.extractLsb' lo n := BitVec.extractLsb'_append_eq_of_add_le h

theorem extract_append_high {m k : Nat} (x : BitVec m) (y : BitVec k) (lo n : Nat) (h : k ≤ lo) :
    (x ++ y).extractLsb' lo n = x.extractLsb' (lo - k) n := BitVec.extractLsb'_append_eq_of_le h

/-! ## mkR -/

@[simp] theorem opOf_mkR (op : BitVec 6) (rs rt rd sa : BitVec 5) (fn : BitVec 6) : opOf (mkR op rs rt rd sa fn) = op := by
  rw [opOf, mkR, extract_append_high _ _ _ _ (by decide), extract_append_high _ _ _ _ (by decide), extract_append_high _ _ _ _ (by decide), extract_append_high _ _ _ _ (by decide), extract_append_high _ _ _ _ (by decide)]; simp
@[simp] theorem rsOf_mkR (op : BitVec 6) (rs rt rd sa : BitVec 5) (fn : BitVec 6) : rsOf (mkR op rs rt rd sa fn) = rs := by
  rw [rsOf, mkR, extract_append_high _ _ _ _ (by decide), extract_append_high _ _ _ _ (by decide), extract_append_high _ _ _ _ (by decide), extract_append_high _ _ _ _ (by decide), extract_append_low _ _ _ _ (by decide)]; simp
@[simp] theorem rtOf_mkR (op : BitVec 6) (rs rt rd sa : BitVec 5) (fn : BitVec 6) : rtOf (mkR op rs rt rd sa fn) = rt := by
  rw [rtOf, mkR, extract_append_high _ _ _ _ (by decide), extract_append_high _ _ _ _ (by decide), extract_append_high _ _ _ _ (by decide), extract_append_low _ _ _ _ (by decide)]; simp
@[simp] theorem rdOf_mkR (op : BitVec 6) (rs rt rd sa : BitVec 5) (fn : BitVec 6) : rdOf (mkR op rs rt rd sa fn) = rd := by
  rw [rdOf, mkR, extract_append_high _ _ _ _ (by decide), extract_append_high _ _ _ _ (by decide), extract_append_low _ _ _ _ (by decide)]; simp
@[simp] theorem saOf_mkR (op : BitVec 6) (rs rt rd sa : BitVec 5) (fn : BitVec 6) : saOf (mkR op rs rt rd sa fn) = sa := by
  rw [saOf, mkR, extract_append_high _ _ _ _ (by decide), extract_append_low _ _ _ _ (by decide)]; simp
@[simp] theorem fnOf_mkR (op : BitVec 6) (rs rt rd sa : BitVec 5) (fn : BitVec 6) : fnOf (mkR op rs rt rd sa fn) = fn := by
  rw [fnOf, mkR, extract_append_low _ _ _ _ (by decide)]; simp

/-! ## mkI -/

@[simp] theorem opOf_mkI (op : BitVec 6) (rs rt : BitVec 5) (imm : BitVec 16) : opOf (mkI op rs rt imm) = op := by
  rw [opOf, mkI, extract_append_high _ _ _ _ (by decide), extract_append_high _ _ _ _ (by decide), extract_append_high _ _ _ _ (by decide)]; simp
@[simp] theorem rsOf_mkI (op : BitVec 6) (rs rt : BitVec 5) (imm : BitVec 16) : rsOf (mkI op rs rt imm) = rs := by
  rw [rsOf, mkI, extract_append_high _ _ _ _ (by decide), extract_append_high _ _ _ _ (by decide), extract_append_low _ _ _ _ (by decide)]; simp
@[simp] theorem rtOf_mkI (op : BitVec 6) (rs rt : BitVec 5) (imm : BitVec 16) : rtOf (mkI op rs rt imm) = rt := by
  rw [rtOf, mkI, extract_append_high _ _ _ _ (by decide), extract_append_low _ _ _ _ (by decide)]; simp
@[simp] theorem immOf_mkI (op : BitVec 6) (rs rt : BitVec 5) (imm : BitVec 16) : immOf (mkI op rs rt imm) = imm := by
  rw [immOf, mkI, extract_append_low _ _ _ _ (by decide)]; simp

/-! ## mkJ -/

@[simp] theorem opOf_mkJ (op : BitVec 6) (index : BitVec 26) : opOf (mkJ op index) = op := by
  rw [opOf, mkJ, extract_append_high _ _ _ _ (by decide)]; simp
@[simp] theorem indexOf_mkJ (op : BitVec 6) (index : BitVec 26) : indexOf (mkJ op index) = index := by
  rw [indexOf, mkJ, extract_append_low _ _ _ _ (by decide)]; simp

/-! ## mkCode -/

@[simp] theorem opOf_mkCode (code : BitVec 20) (fn : BitVec 6) : opOf (mkCode code fn) = 0b000000#6 := by
  rw [opOf, mkCode, extract_append_high _ _ _ _ (by decide), extract_append_high _ _ _ _ (by decide)]; simp
@[simp] theorem codeOf_mkCode (code : BitVec 20) (fn : BitVec 6) : codeOf (mkCode code fn) = code := by
  rw [codeOf, mkCode, extract_append_high _ _ _ _ (by decide), extract_append_low _ _ _ _ (by decide)]; simp
@[simp] theorem fnOf_mkCode (code : BitVec 20) (fn : BitVec 6) : fnOf (mkCode code fn) = fn := by
  rw [fnOf, mkCode, extract_append_low _ _ _ _ (by decide)]; simp

/-! ## mkTrap -/

@[simp] theorem opOf_mkTrap (rs rt : BitVec 5) (code : BitVec 10) (fn : BitVec 6) : opOf (mkTrap rs rt code fn) = 0b000000#6 := by
  rw [opOf, mkTrap, extract_append_high _ _ _ _ (by decide), extract_append_high _ _ _ _ (by decide), extract_append_high _ _ _ _ (by decide), extract_append_high _ _ _ _ (by decide)]; simp
@[simp] theorem rsOf_mkTrap (rs rt : BitVec 5) (code : BitVec 10) (fn : BitVec 6) : rsOf (mkTrap rs rt code fn) = rs := by
  rw [rsOf, mkTrap, extract_append_high _ _ _ _ (by decide), extract_append_high _ _ _ _ (by decide), extract_append_high _ _ _ _ (by decide), extract_append_low _ _ _ _ (by decide)]; simp
@[simp] theorem rtOf_mkTrap (rs rt : BitVec 5) (code : BitVec 10) (fn : BitVec 6) : rtOf (mkTrap rs rt code fn) = rt := by
  rw [rtOf, mkTrap, extract_append_high _ _ _ _ (by decide), extract_append_high _ _ _ _ (by decide), extract_append_low _ _ _ _ (by decide)]; simp
@[simp] theorem trapCodeOf_mkTrap (rs rt : BitVec 5) (code : BitVec 10) (fn : BitVec 6) : trapCodeOf (mkTrap rs rt code fn) = code := by
  rw [trapCodeOf, mkTrap, extract_append_high _ _ _ _ (by decide), extract_append_low _ _ _ _ (by decide)]; simp
@[simp] theorem fnOf_mkTrap (rs rt : BitVec 5) (code : BitVec 10) (fn : BitVec 6) : fnOf (mkTrap rs rt code fn) = fn := by
  rw [fnOf, mkTrap, extract_append_low _ _ _ _ (by decide)]; simp

/-! ## mkPerf -/

@[simp] theorem opOf_mkPerf (sub rt reg : BitVec 5) (sel : BitVec 1) :
    opOf (mkPerf sub rt reg sel) = 0b010000#6 := by
  rw [opOf, mkPerf, extract_append_high _ _ _ _ (by decide), extract_append_high _ _ _ _ (by decide), extract_append_high _ _ _ _ (by decide), extract_append_high _ _ _ _ (by decide), extract_append_high _ _ _ _ (by decide), extract_append_high _ _ _ _ (by decide)]; simp
@[simp] theorem rsOf_mkPerf (sub rt reg : BitVec 5) (sel : BitVec 1) :
    rsOf (mkPerf sub rt reg sel) = sub := by
  rw [rsOf, mkPerf, extract_append_high _ _ _ _ (by decide), extract_append_high _ _ _ _ (by decide), extract_append_high _ _ _ _ (by decide), extract_append_high _ _ _ _ (by decide), extract_append_high _ _ _ _ (by decide), extract_append_low _ _ _ _ (by decide)]; simp
@[simp] theorem rtOf_mkPerf (sub rt reg : BitVec 5) (sel : BitVec 1) :
    rtOf (mkPerf sub rt reg sel) = rt := by
  rw [rtOf, mkPerf, extract_append_high _ _ _ _ (by decide), extract_append_high _ _ _ _ (by decide), extract_append_high _ _ _ _ (by decide), extract_append_high _ _ _ _ (by decide), extract_append_low _ _ _ _ (by decide)]; simp
@[simp] theorem rdOf_mkPerf (sub rt reg : BitVec 5) (sel : BitVec 1) :
    rdOf (mkPerf sub rt reg sel) = 0b11001#5 := by
  rw [rdOf, mkPerf, extract_append_high _ _ _ _ (by decide), extract_append_high _ _ _ _ (by decide), extract_append_high _ _ _ _ (by decide), extract_append_low _ _ _ _ (by decide)]; simp
@[simp] theorem saOf_mkPerf (sub rt reg : BitVec 5) (sel : BitVec 1) :
    saOf (mkPerf sub rt reg sel) = 0b00000#5 := by
  rw [saOf, mkPerf, extract_append_high _ _ _ _ (by decide), extract_append_high _ _ _ _ (by decide), extract_append_low _ _ _ _ (by decide)]; simp
@[simp] theorem perfRegOf_mkPerf (sub rt reg : BitVec 5) (sel : BitVec 1) :
    perfRegOf (mkPerf sub rt reg sel) = reg := by
  rw [perfRegOf, mkPerf, extract_append_high _ _ _ _ (by decide), extract_append_low _ _ _ _ (by decide)]; simp
@[simp] theorem fnOf_mkPerf_zero (sub rt reg : BitVec 5) (sel : BitVec 1) :
    (fnOf (mkPerf sub rt reg sel)).getLsbD 0 = sel.getLsbD 0 := by
  rw [fnOf, mkPerf, BitVec.getLsbD_extractLsb', BitVec.getLsbD_append]; simp

end Sys2Proof
end

