-- ==== Sys2Proof/Laws/State.lean ====
section
/-! SUPPORT. What each update of the state makes of each field, one lemma per field per update, true by computation. -/

namespace Sys2Proof.Machine

/-! ## writeQ -/

@[simp] theorem writeQ_gpr (s : State) (r : Reg) (v : Quad) : (s.writeQ r v).gpr = setGpr s.gpr r v := rfl
@[simp] theorem writeQ_pc (s : State) (r : Reg) (v : Quad) : (s.writeQ r v).pc = s.pc := rfl
@[simp] theorem writeQ_npc (s : State) (r : Reg) (v : Quad) : (s.writeQ r v).npc = s.npc := rfl
@[simp] theorem writeQ_bd (s : State) (r : Reg) (v : Quad) : (s.writeQ r v).bd = s.bd := rfl
@[simp] theorem writeQ_hi (s : State) (r : Reg) (v : Quad) : (s.writeQ r v).hi = s.hi := rfl
@[simp] theorem writeQ_lo (s : State) (r : Reg) (v : Quad) : (s.writeQ r v).lo = s.lo := rfl
@[simp] theorem writeQ_saBytes (s : State) (r : Reg) (v : Quad) : (s.writeQ r v).saBytes = s.saBytes := rfl
@[simp] theorem writeQ_fpr (s : State) (r : Reg) (v : Quad) : (s.writeQ r v).fpr = s.fpr := rfl
@[simp] theorem writeQ_acc (s : State) (r : Reg) (v : Quad) : (s.writeQ r v).acc = s.acc := rfl
@[simp] theorem writeQ_fcr31 (s : State) (r : Reg) (v : Quad) : (s.writeQ r v).fcr31 = s.fcr31 := rfl
@[simp] theorem writeQ_cop0 (s : State) (r : Reg) (v : Quad) : (s.writeQ r v).cop0 = s.cop0 := rfl
@[simp] theorem writeQ_dbg (s : State) (r : Reg) (v : Quad) : (s.writeQ r v).dbg = s.dbg := rfl
@[simp] theorem writeQ_perf (s : State) (r : Reg) (v : Quad) : (s.writeQ r v).perf = s.perf := rfl
@[simp] theorem writeQ_mem (s : State) (r : Reg) (v : Quad) : (s.writeQ r v).mem = s.mem := rfl
@[simp] theorem writeQ_stored (s : State) (r : Reg) (v : Quad) : (s.writeQ r v).stored = s.stored := rfl
@[simp] theorem writeQ_memMap (s : State) (r : Reg) (v : Quad) : (s.writeQ r v).memMap = s.memMap := rfl
@[simp] theorem writeQ_int0 (s : State) (r : Reg) (v : Quad) : (s.writeQ r v).int0 = s.int0 := rfl
@[simp] theorem writeQ_int1 (s : State) (r : Reg) (v : Quad) : (s.writeQ r v).int1 = s.int1 := rfl
@[simp] theorem writeQ_env (s : State) (r : Reg) (v : Quad) : (s.writeQ r v).env = s.env := rfl
@[simp] theorem writeQ_draws (s : State) (r : Reg) (v : Quad) : (s.writeQ r v).draws = s.draws := rfl

/-! ## writeD -/

@[simp] theorem writeD_gpr (s : State) (r : Reg) (v : Dword) :
    (s.writeD r v).gpr = setGpr s.gpr r (withLowD (s.readQ r) v) := rfl
@[simp] theorem writeD_pc (s : State) (r : Reg) (v : Dword) : (s.writeD r v).pc = s.pc := rfl
@[simp] theorem writeD_npc (s : State) (r : Reg) (v : Dword) : (s.writeD r v).npc = s.npc := rfl
@[simp] theorem writeD_bd (s : State) (r : Reg) (v : Dword) : (s.writeD r v).bd = s.bd := rfl
@[simp] theorem writeD_hi (s : State) (r : Reg) (v : Dword) : (s.writeD r v).hi = s.hi := rfl
@[simp] theorem writeD_lo (s : State) (r : Reg) (v : Dword) : (s.writeD r v).lo = s.lo := rfl
@[simp] theorem writeD_saBytes (s : State) (r : Reg) (v : Dword) : (s.writeD r v).saBytes = s.saBytes := rfl
@[simp] theorem writeD_fpr (s : State) (r : Reg) (v : Dword) : (s.writeD r v).fpr = s.fpr := rfl
@[simp] theorem writeD_acc (s : State) (r : Reg) (v : Dword) : (s.writeD r v).acc = s.acc := rfl
@[simp] theorem writeD_fcr31 (s : State) (r : Reg) (v : Dword) : (s.writeD r v).fcr31 = s.fcr31 := rfl
@[simp] theorem writeD_cop0 (s : State) (r : Reg) (v : Dword) : (s.writeD r v).cop0 = s.cop0 := rfl
@[simp] theorem writeD_dbg (s : State) (r : Reg) (v : Dword) : (s.writeD r v).dbg = s.dbg := rfl
@[simp] theorem writeD_perf (s : State) (r : Reg) (v : Dword) : (s.writeD r v).perf = s.perf := rfl
@[simp] theorem writeD_mem (s : State) (r : Reg) (v : Dword) : (s.writeD r v).mem = s.mem := rfl
@[simp] theorem writeD_stored (s : State) (r : Reg) (v : Dword) : (s.writeD r v).stored = s.stored := rfl
@[simp] theorem writeD_memMap (s : State) (r : Reg) (v : Dword) : (s.writeD r v).memMap = s.memMap := rfl
@[simp] theorem writeD_int0 (s : State) (r : Reg) (v : Dword) : (s.writeD r v).int0 = s.int0 := rfl
@[simp] theorem writeD_int1 (s : State) (r : Reg) (v : Dword) : (s.writeD r v).int1 = s.int1 := rfl
@[simp] theorem writeD_env (s : State) (r : Reg) (v : Dword) : (s.writeD r v).env = s.env := rfl
@[simp] theorem writeD_draws (s : State) (r : Reg) (v : Dword) : (s.writeD r v).draws = s.draws := rfl

/-! ## writeW -/

@[simp] theorem writeW_gpr (s : State) (r : Reg) (v : Word) :
    (s.writeW r v).gpr = setGpr s.gpr r (withLowD (s.readQ r) (sext64 v)) := rfl
@[simp] theorem writeW_pc (s : State) (r : Reg) (v : Word) : (s.writeW r v).pc = s.pc := rfl
@[simp] theorem writeW_npc (s : State) (r : Reg) (v : Word) : (s.writeW r v).npc = s.npc := rfl
@[simp] theorem writeW_bd (s : State) (r : Reg) (v : Word) : (s.writeW r v).bd = s.bd := rfl
@[simp] theorem writeW_hi (s : State) (r : Reg) (v : Word) : (s.writeW r v).hi = s.hi := rfl
@[simp] theorem writeW_lo (s : State) (r : Reg) (v : Word) : (s.writeW r v).lo = s.lo := rfl
@[simp] theorem writeW_saBytes (s : State) (r : Reg) (v : Word) : (s.writeW r v).saBytes = s.saBytes := rfl
@[simp] theorem writeW_fpr (s : State) (r : Reg) (v : Word) : (s.writeW r v).fpr = s.fpr := rfl
@[simp] theorem writeW_acc (s : State) (r : Reg) (v : Word) : (s.writeW r v).acc = s.acc := rfl
@[simp] theorem writeW_fcr31 (s : State) (r : Reg) (v : Word) : (s.writeW r v).fcr31 = s.fcr31 := rfl
@[simp] theorem writeW_cop0 (s : State) (r : Reg) (v : Word) : (s.writeW r v).cop0 = s.cop0 := rfl
@[simp] theorem writeW_dbg (s : State) (r : Reg) (v : Word) : (s.writeW r v).dbg = s.dbg := rfl
@[simp] theorem writeW_perf (s : State) (r : Reg) (v : Word) : (s.writeW r v).perf = s.perf := rfl
@[simp] theorem writeW_mem (s : State) (r : Reg) (v : Word) : (s.writeW r v).mem = s.mem := rfl
@[simp] theorem writeW_stored (s : State) (r : Reg) (v : Word) : (s.writeW r v).stored = s.stored := rfl
@[simp] theorem writeW_memMap (s : State) (r : Reg) (v : Word) : (s.writeW r v).memMap = s.memMap := rfl
@[simp] theorem writeW_int0 (s : State) (r : Reg) (v : Word) : (s.writeW r v).int0 = s.int0 := rfl
@[simp] theorem writeW_int1 (s : State) (r : Reg) (v : Word) : (s.writeW r v).int1 = s.int1 := rfl
@[simp] theorem writeW_env (s : State) (r : Reg) (v : Word) : (s.writeW r v).env = s.env := rfl
@[simp] theorem writeW_draws (s : State) (r : Reg) (v : Word) : (s.writeW r v).draws = s.draws := rfl

/-! ## writeF -/

@[simp] theorem writeF_gpr (s : State) (r : Reg) (v : Word) : (s.writeF r v).gpr = s.gpr := rfl
@[simp] theorem writeF_pc (s : State) (r : Reg) (v : Word) : (s.writeF r v).pc = s.pc := rfl
@[simp] theorem writeF_npc (s : State) (r : Reg) (v : Word) : (s.writeF r v).npc = s.npc := rfl
@[simp] theorem writeF_bd (s : State) (r : Reg) (v : Word) : (s.writeF r v).bd = s.bd := rfl
@[simp] theorem writeF_hi (s : State) (r : Reg) (v : Word) : (s.writeF r v).hi = s.hi := rfl
@[simp] theorem writeF_lo (s : State) (r : Reg) (v : Word) : (s.writeF r v).lo = s.lo := rfl
@[simp] theorem writeF_saBytes (s : State) (r : Reg) (v : Word) : (s.writeF r v).saBytes = s.saBytes := rfl
@[simp] theorem writeF_fpr (s : State) (r : Reg) (v : Word) : (s.writeF r v).fpr = s.fpr.set r.toNat v r.isLt := rfl
@[simp] theorem writeF_acc (s : State) (r : Reg) (v : Word) : (s.writeF r v).acc = s.acc := rfl
@[simp] theorem writeF_fcr31 (s : State) (r : Reg) (v : Word) : (s.writeF r v).fcr31 = s.fcr31 := rfl
@[simp] theorem writeF_cop0 (s : State) (r : Reg) (v : Word) : (s.writeF r v).cop0 = s.cop0 := rfl
@[simp] theorem writeF_dbg (s : State) (r : Reg) (v : Word) : (s.writeF r v).dbg = s.dbg := rfl
@[simp] theorem writeF_perf (s : State) (r : Reg) (v : Word) : (s.writeF r v).perf = s.perf := rfl
@[simp] theorem writeF_mem (s : State) (r : Reg) (v : Word) : (s.writeF r v).mem = s.mem := rfl
@[simp] theorem writeF_stored (s : State) (r : Reg) (v : Word) : (s.writeF r v).stored = s.stored := rfl
@[simp] theorem writeF_memMap (s : State) (r : Reg) (v : Word) : (s.writeF r v).memMap = s.memMap := rfl
@[simp] theorem writeF_int0 (s : State) (r : Reg) (v : Word) : (s.writeF r v).int0 = s.int0 := rfl
@[simp] theorem writeF_int1 (s : State) (r : Reg) (v : Word) : (s.writeF r v).int1 = s.int1 := rfl
@[simp] theorem writeF_env (s : State) (r : Reg) (v : Word) : (s.writeF r v).env = s.env := rfl
@[simp] theorem writeF_draws (s : State) (r : Reg) (v : Word) : (s.writeF r v).draws = s.draws := rfl

/-! ## advance -/

@[simp] theorem advance_gpr (s : State) : (s.advance).gpr = s.gpr := rfl
@[simp] theorem advance_pc (s : State) : (s.advance).pc = s.npc := rfl
@[simp] theorem advance_npc (s : State) : (s.advance).npc = s.npc + 4 := rfl
@[simp] theorem advance_bd (s : State) : (s.advance).bd = false := rfl
@[simp] theorem advance_hi (s : State) : (s.advance).hi = s.hi := rfl
@[simp] theorem advance_lo (s : State) : (s.advance).lo = s.lo := rfl
@[simp] theorem advance_saBytes (s : State) : (s.advance).saBytes = s.saBytes := rfl
@[simp] theorem advance_fpr (s : State) : (s.advance).fpr = s.fpr := rfl
@[simp] theorem advance_acc (s : State) : (s.advance).acc = s.acc := rfl
@[simp] theorem advance_fcr31 (s : State) : (s.advance).fcr31 = s.fcr31 := rfl
@[simp] theorem advance_cop0 (s : State) : (s.advance).cop0 = s.cop0 := rfl
@[simp] theorem advance_dbg (s : State) : (s.advance).dbg = s.dbg := rfl
@[simp] theorem advance_perf (s : State) : (s.advance).perf = s.perf := rfl
@[simp] theorem advance_mem (s : State) : (s.advance).mem = s.mem := rfl
@[simp] theorem advance_stored (s : State) : (s.advance).stored = s.stored := rfl
@[simp] theorem advance_memMap (s : State) : (s.advance).memMap = s.memMap := rfl
@[simp] theorem advance_int0 (s : State) : (s.advance).int0 = s.int0 := rfl
@[simp] theorem advance_int1 (s : State) : (s.advance).int1 = s.int1 := rfl
@[simp] theorem advance_env (s : State) : (s.advance).env = s.env := rfl
@[simp] theorem advance_draws (s : State) : (s.advance).draws = s.draws := rfl

/-! ## writeHiLo -/

@[simp] theorem writeHiLo_gpr (s : State) (h l : Dword) : (s.writeHiLo h l).gpr = s.gpr := rfl
@[simp] theorem writeHiLo_pc (s : State) (h l : Dword) : (s.writeHiLo h l).pc = s.pc := rfl
@[simp] theorem writeHiLo_npc (s : State) (h l : Dword) : (s.writeHiLo h l).npc = s.npc := rfl
@[simp] theorem writeHiLo_bd (s : State) (h l : Dword) : (s.writeHiLo h l).bd = s.bd := rfl
@[simp] theorem writeHiLo_hi (s : State) (h l : Dword) : (s.writeHiLo h l).hi = withLowD s.hi h := rfl
@[simp] theorem writeHiLo_lo (s : State) (h l : Dword) : (s.writeHiLo h l).lo = withLowD s.lo l := rfl
@[simp] theorem writeHiLo_saBytes (s : State) (h l : Dword) : (s.writeHiLo h l).saBytes = s.saBytes := rfl
@[simp] theorem writeHiLo_fpr (s : State) (h l : Dword) : (s.writeHiLo h l).fpr = s.fpr := rfl
@[simp] theorem writeHiLo_acc (s : State) (h l : Dword) : (s.writeHiLo h l).acc = s.acc := rfl
@[simp] theorem writeHiLo_fcr31 (s : State) (h l : Dword) : (s.writeHiLo h l).fcr31 = s.fcr31 := rfl
@[simp] theorem writeHiLo_cop0 (s : State) (h l : Dword) : (s.writeHiLo h l).cop0 = s.cop0 := rfl
@[simp] theorem writeHiLo_dbg (s : State) (h l : Dword) : (s.writeHiLo h l).dbg = s.dbg := rfl
@[simp] theorem writeHiLo_perf (s : State) (h l : Dword) : (s.writeHiLo h l).perf = s.perf := rfl
@[simp] theorem writeHiLo_mem (s : State) (h l : Dword) : (s.writeHiLo h l).mem = s.mem := rfl
@[simp] theorem writeHiLo_stored (s : State) (h l : Dword) : (s.writeHiLo h l).stored = s.stored := rfl
@[simp] theorem writeHiLo_memMap (s : State) (h l : Dword) : (s.writeHiLo h l).memMap = s.memMap := rfl
@[simp] theorem writeHiLo_int0 (s : State) (h l : Dword) : (s.writeHiLo h l).int0 = s.int0 := rfl
@[simp] theorem writeHiLo_int1 (s : State) (h l : Dword) : (s.writeHiLo h l).int1 = s.int1 := rfl
@[simp] theorem writeHiLo_env (s : State) (h l : Dword) : (s.writeHiLo h l).env = s.env := rfl
@[simp] theorem writeHiLo_draws (s : State) (h l : Dword) : (s.writeHiLo h l).draws = s.draws := rfl

/-! ## writeHiLo1 -/

@[simp] theorem writeHiLo1_gpr (s : State) (h l : Dword) : (s.writeHiLo1 h l).gpr = s.gpr := rfl
@[simp] theorem writeHiLo1_pc (s : State) (h l : Dword) : (s.writeHiLo1 h l).pc = s.pc := rfl
@[simp] theorem writeHiLo1_npc (s : State) (h l : Dword) : (s.writeHiLo1 h l).npc = s.npc := rfl
@[simp] theorem writeHiLo1_bd (s : State) (h l : Dword) : (s.writeHiLo1 h l).bd = s.bd := rfl
@[simp] theorem writeHiLo1_hi (s : State) (h l : Dword) : (s.writeHiLo1 h l).hi = withHighD s.hi h := rfl
@[simp] theorem writeHiLo1_lo (s : State) (h l : Dword) : (s.writeHiLo1 h l).lo = withHighD s.lo l := rfl
@[simp] theorem writeHiLo1_saBytes (s : State) (h l : Dword) : (s.writeHiLo1 h l).saBytes = s.saBytes := rfl
@[simp] theorem writeHiLo1_fpr (s : State) (h l : Dword) : (s.writeHiLo1 h l).fpr = s.fpr := rfl
@[simp] theorem writeHiLo1_acc (s : State) (h l : Dword) : (s.writeHiLo1 h l).acc = s.acc := rfl
@[simp] theorem writeHiLo1_fcr31 (s : State) (h l : Dword) : (s.writeHiLo1 h l).fcr31 = s.fcr31 := rfl
@[simp] theorem writeHiLo1_cop0 (s : State) (h l : Dword) : (s.writeHiLo1 h l).cop0 = s.cop0 := rfl
@[simp] theorem writeHiLo1_dbg (s : State) (h l : Dword) : (s.writeHiLo1 h l).dbg = s.dbg := rfl
@[simp] theorem writeHiLo1_perf (s : State) (h l : Dword) : (s.writeHiLo1 h l).perf = s.perf := rfl
@[simp] theorem writeHiLo1_mem (s : State) (h l : Dword) : (s.writeHiLo1 h l).mem = s.mem := rfl
@[simp] theorem writeHiLo1_stored (s : State) (h l : Dword) : (s.writeHiLo1 h l).stored = s.stored := rfl
@[simp] theorem writeHiLo1_memMap (s : State) (h l : Dword) : (s.writeHiLo1 h l).memMap = s.memMap := rfl
@[simp] theorem writeHiLo1_int0 (s : State) (h l : Dword) : (s.writeHiLo1 h l).int0 = s.int0 := rfl
@[simp] theorem writeHiLo1_int1 (s : State) (h l : Dword) : (s.writeHiLo1 h l).int1 = s.int1 := rfl
@[simp] theorem writeHiLo1_env (s : State) (h l : Dword) : (s.writeHiLo1 h l).env = s.env := rfl
@[simp] theorem writeHiLo1_draws (s : State) (h l : Dword) : (s.writeHiLo1 h l).draws = s.draws := rfl

/-! ## writeHiLoQ -/

@[simp] theorem writeHiLoQ_gpr (s : State) (h l : Quad) : (s.writeHiLoQ h l).gpr = s.gpr := rfl
@[simp] theorem writeHiLoQ_pc (s : State) (h l : Quad) : (s.writeHiLoQ h l).pc = s.pc := rfl
@[simp] theorem writeHiLoQ_npc (s : State) (h l : Quad) : (s.writeHiLoQ h l).npc = s.npc := rfl
@[simp] theorem writeHiLoQ_bd (s : State) (h l : Quad) : (s.writeHiLoQ h l).bd = s.bd := rfl
@[simp] theorem writeHiLoQ_hi (s : State) (h l : Quad) : (s.writeHiLoQ h l).hi = h := rfl
@[simp] theorem writeHiLoQ_lo (s : State) (h l : Quad) : (s.writeHiLoQ h l).lo = l := rfl
@[simp] theorem writeHiLoQ_saBytes (s : State) (h l : Quad) : (s.writeHiLoQ h l).saBytes = s.saBytes := rfl
@[simp] theorem writeHiLoQ_fpr (s : State) (h l : Quad) : (s.writeHiLoQ h l).fpr = s.fpr := rfl
@[simp] theorem writeHiLoQ_acc (s : State) (h l : Quad) : (s.writeHiLoQ h l).acc = s.acc := rfl
@[simp] theorem writeHiLoQ_fcr31 (s : State) (h l : Quad) : (s.writeHiLoQ h l).fcr31 = s.fcr31 := rfl
@[simp] theorem writeHiLoQ_cop0 (s : State) (h l : Quad) : (s.writeHiLoQ h l).cop0 = s.cop0 := rfl
@[simp] theorem writeHiLoQ_dbg (s : State) (h l : Quad) : (s.writeHiLoQ h l).dbg = s.dbg := rfl
@[simp] theorem writeHiLoQ_perf (s : State) (h l : Quad) : (s.writeHiLoQ h l).perf = s.perf := rfl
@[simp] theorem writeHiLoQ_mem (s : State) (h l : Quad) : (s.writeHiLoQ h l).mem = s.mem := rfl
@[simp] theorem writeHiLoQ_stored (s : State) (h l : Quad) : (s.writeHiLoQ h l).stored = s.stored := rfl
@[simp] theorem writeHiLoQ_memMap (s : State) (h l : Quad) : (s.writeHiLoQ h l).memMap = s.memMap := rfl
@[simp] theorem writeHiLoQ_int0 (s : State) (h l : Quad) : (s.writeHiLoQ h l).int0 = s.int0 := rfl
@[simp] theorem writeHiLoQ_int1 (s : State) (h l : Quad) : (s.writeHiLoQ h l).int1 = s.int1 := rfl
@[simp] theorem writeHiLoQ_env (s : State) (h l : Quad) : (s.writeHiLoQ h l).env = s.env := rfl
@[simp] theorem writeHiLoQ_draws (s : State) (h l : Quad) : (s.writeHiLoQ h l).draws = s.draws := rfl

/-! ## storeBytes -/

@[simp] theorem storeBytes_gpr (s : State) (a : Addr) (n : Nat) (v : Quad) : (s.storeBytes a n v).gpr = s.gpr := rfl
@[simp] theorem storeBytes_pc (s : State) (a : Addr) (n : Nat) (v : Quad) : (s.storeBytes a n v).pc = s.pc := rfl
@[simp] theorem storeBytes_npc (s : State) (a : Addr) (n : Nat) (v : Quad) : (s.storeBytes a n v).npc = s.npc := rfl
@[simp] theorem storeBytes_bd (s : State) (a : Addr) (n : Nat) (v : Quad) : (s.storeBytes a n v).bd = s.bd := rfl
@[simp] theorem storeBytes_hi (s : State) (a : Addr) (n : Nat) (v : Quad) : (s.storeBytes a n v).hi = s.hi := rfl
@[simp] theorem storeBytes_lo (s : State) (a : Addr) (n : Nat) (v : Quad) : (s.storeBytes a n v).lo = s.lo := rfl
@[simp] theorem storeBytes_saBytes (s : State) (a : Addr) (n : Nat) (v : Quad) :
    (s.storeBytes a n v).saBytes = s.saBytes := rfl
@[simp] theorem storeBytes_fpr (s : State) (a : Addr) (n : Nat) (v : Quad) : (s.storeBytes a n v).fpr = s.fpr := rfl
@[simp] theorem storeBytes_acc (s : State) (a : Addr) (n : Nat) (v : Quad) : (s.storeBytes a n v).acc = s.acc := rfl
@[simp] theorem storeBytes_fcr31 (s : State) (a : Addr) (n : Nat) (v : Quad) :
    (s.storeBytes a n v).fcr31 = s.fcr31 := rfl
@[simp] theorem storeBytes_cop0 (s : State) (a : Addr) (n : Nat) (v : Quad) : (s.storeBytes a n v).cop0 = s.cop0 := rfl
@[simp] theorem storeBytes_dbg (s : State) (a : Addr) (n : Nat) (v : Quad) : (s.storeBytes a n v).dbg = s.dbg := rfl
@[simp] theorem storeBytes_perf (s : State) (a : Addr) (n : Nat) (v : Quad) : (s.storeBytes a n v).perf = s.perf := rfl
@[simp] theorem storeBytes_mem (s : State) (a : Addr) (n : Nat) (v : Quad) :
    (s.storeBytes a n v).mem = s.mem.writeBytes a v n := rfl
@[simp] theorem storeBytes_stored (s : State) (a : Addr) (n : Nat) (v : Quad) :
    (s.storeBytes a n v).stored = markBytes s.stored a n := rfl
@[simp] theorem storeBytes_memMap (s : State) (a : Addr) (n : Nat) (v : Quad) :
    (s.storeBytes a n v).memMap = s.memMap := rfl
@[simp] theorem storeBytes_int0 (s : State) (a : Addr) (n : Nat) (v : Quad) : (s.storeBytes a n v).int0 = s.int0 := rfl
@[simp] theorem storeBytes_int1 (s : State) (a : Addr) (n : Nat) (v : Quad) : (s.storeBytes a n v).int1 = s.int1 := rfl
@[simp] theorem storeBytes_env (s : State) (a : Addr) (n : Nat) (v : Quad) : (s.storeBytes a n v).env = s.env := rfl
@[simp] theorem storeBytes_draws (s : State) (a : Addr) (n : Nat) (v : Quad) :
    (s.storeBytes a n v).draws = s.draws := rfl

/-! ## setEie -/

@[simp] theorem setEie_gpr (s : State) (b : Bool) : (setEie s b).gpr = s.gpr := rfl
@[simp] theorem setEie_pc (s : State) (b : Bool) : (setEie s b).pc = s.pc := rfl
@[simp] theorem setEie_npc (s : State) (b : Bool) : (setEie s b).npc = s.npc := rfl
@[simp] theorem setEie_bd (s : State) (b : Bool) : (setEie s b).bd = s.bd := rfl
@[simp] theorem setEie_hi (s : State) (b : Bool) : (setEie s b).hi = s.hi := rfl
@[simp] theorem setEie_lo (s : State) (b : Bool) : (setEie s b).lo = s.lo := rfl
@[simp] theorem setEie_saBytes (s : State) (b : Bool) : (setEie s b).saBytes = s.saBytes := rfl
@[simp] theorem setEie_fpr (s : State) (b : Bool) : (setEie s b).fpr = s.fpr := rfl
@[simp] theorem setEie_acc (s : State) (b : Bool) : (setEie s b).acc = s.acc := rfl
@[simp] theorem setEie_fcr31 (s : State) (b : Bool) : (setEie s b).fcr31 = s.fcr31 := rfl
@[simp] theorem setEie_cop0 (s : State) (b : Bool) :
    (setEie s b).cop0 = { s.cop0 with status := setBit s.cop0.status 16 b } := rfl
@[simp] theorem setEie_dbg (s : State) (b : Bool) : (setEie s b).dbg = s.dbg := rfl
@[simp] theorem setEie_perf (s : State) (b : Bool) : (setEie s b).perf = s.perf := rfl
@[simp] theorem setEie_mem (s : State) (b : Bool) : (setEie s b).mem = s.mem := rfl
@[simp] theorem setEie_stored (s : State) (b : Bool) : (setEie s b).stored = s.stored := rfl
@[simp] theorem setEie_memMap (s : State) (b : Bool) : (setEie s b).memMap = s.memMap := rfl
@[simp] theorem setEie_int0 (s : State) (b : Bool) : (setEie s b).int0 = s.int0 := rfl
@[simp] theorem setEie_int1 (s : State) (b : Bool) : (setEie s b).int1 = s.int1 := rfl
@[simp] theorem setEie_env (s : State) (b : Bool) : (setEie s b).env = s.env := rfl
@[simp] theorem setEie_draws (s : State) (b : Bool) : (setEie s b).draws = s.draws := rfl

/-! ## takeException -/

@[simp] theorem takeException_gpr (e : Exc) (s : State) : (takeException e s).gpr = s.gpr := rfl
@[simp] theorem takeException_pc (e : Exc) (s : State) : (takeException e s).pc = level1Vector e s.cop0.status := rfl
@[simp] theorem takeException_npc (e : Exc) (s : State) :
    (takeException e s).npc = level1Vector e s.cop0.status + 4 := rfl
@[simp] theorem takeException_bd (e : Exc) (s : State) : (takeException e s).bd = false := rfl
@[simp] theorem takeException_hi (e : Exc) (s : State) : (takeException e s).hi = s.hi := rfl
@[simp] theorem takeException_lo (e : Exc) (s : State) : (takeException e s).lo = s.lo := rfl
@[simp] theorem takeException_saBytes (e : Exc) (s : State) : (takeException e s).saBytes = s.saBytes := rfl
@[simp] theorem takeException_fpr (e : Exc) (s : State) : (takeException e s).fpr = s.fpr := rfl
@[simp] theorem takeException_acc (e : Exc) (s : State) : (takeException e s).acc = s.acc := rfl
@[simp] theorem takeException_fcr31 (e : Exc) (s : State) : (takeException e s).fcr31 = s.fcr31 := rfl
@[simp] theorem takeException_cop0 (e : Exc) (s : State) :
    (takeException e s).cop0 = s.cop0.enterLevel1 e s.pc s.bd s.draws := rfl
@[simp] theorem takeException_dbg (e : Exc) (s : State) : (takeException e s).dbg = s.dbg := rfl
@[simp] theorem takeException_perf (e : Exc) (s : State) : (takeException e s).perf = s.perf := rfl
@[simp] theorem takeException_mem (e : Exc) (s : State) : (takeException e s).mem = s.mem := rfl
@[simp] theorem takeException_stored (e : Exc) (s : State) : (takeException e s).stored = s.stored := rfl
@[simp] theorem takeException_memMap (e : Exc) (s : State) : (takeException e s).memMap = s.memMap := rfl
@[simp] theorem takeException_int0 (e : Exc) (s : State) : (takeException e s).int0 = s.int0 := rfl
@[simp] theorem takeException_int1 (e : Exc) (s : State) : (takeException e s).int1 = s.int1 := rfl
@[simp] theorem takeException_env (e : Exc) (s : State) : (takeException e s).env = s.env := rfl
@[simp] theorem takeException_draws (e : Exc) (s : State) : (takeException e s).draws = s.draws + e.drawsMade := rfl

/-! ## takeEvent2 -/

@[simp] theorem takeEvent2_gpr (e : Event2) (s : State) : (takeEvent2 e s).gpr = s.gpr := rfl
@[simp] theorem takeEvent2_pc (e : Event2) (s : State) : (takeEvent2 e s).pc = e.vector s.cop0.status := rfl
@[simp] theorem takeEvent2_npc (e : Event2) (s : State) : (takeEvent2 e s).npc = e.vector s.cop0.status + 4 := rfl
@[simp] theorem takeEvent2_bd (e : Event2) (s : State) : (takeEvent2 e s).bd = false := rfl
@[simp] theorem takeEvent2_hi (e : Event2) (s : State) : (takeEvent2 e s).hi = s.hi := rfl
@[simp] theorem takeEvent2_lo (e : Event2) (s : State) : (takeEvent2 e s).lo = s.lo := rfl
@[simp] theorem takeEvent2_saBytes (e : Event2) (s : State) : (takeEvent2 e s).saBytes = s.saBytes := rfl
@[simp] theorem takeEvent2_fpr (e : Event2) (s : State) : (takeEvent2 e s).fpr = s.fpr := rfl
@[simp] theorem takeEvent2_acc (e : Event2) (s : State) : (takeEvent2 e s).acc = s.acc := rfl
@[simp] theorem takeEvent2_fcr31 (e : Event2) (s : State) : (takeEvent2 e s).fcr31 = s.fcr31 := rfl
@[simp] theorem takeEvent2_dbg (e : Event2) (s : State) : (takeEvent2 e s).dbg = s.dbg := rfl
@[simp] theorem takeEvent2_perf (e : Event2) (s : State) : (takeEvent2 e s).perf = s.perf := rfl
@[simp] theorem takeEvent2_mem (e : Event2) (s : State) : (takeEvent2 e s).mem = s.mem := rfl
@[simp] theorem takeEvent2_stored (e : Event2) (s : State) : (takeEvent2 e s).stored = s.stored := rfl
@[simp] theorem takeEvent2_memMap (e : Event2) (s : State) : (takeEvent2 e s).memMap = s.memMap := rfl
@[simp] theorem takeEvent2_int0 (e : Event2) (s : State) : (takeEvent2 e s).int0 = s.int0 := rfl
@[simp] theorem takeEvent2_int1 (e : Event2) (s : State) : (takeEvent2 e s).int1 = s.int1 := rfl
@[simp] theorem takeEvent2_env (e : Event2) (s : State) : (takeEvent2 e s).env = s.env := rfl
@[simp] theorem takeEvent2_draws (e : Event2) (s : State) : (takeEvent2 e s).draws = s.draws := rfl

/-! ## sample -/

@[simp] theorem sample_gpr (s : State) : (s.sample).gpr = s.gpr := rfl
@[simp] theorem sample_pc (s : State) : (s.sample).pc = s.pc := rfl
@[simp] theorem sample_npc (s : State) : (s.sample).npc = s.npc := rfl
@[simp] theorem sample_bd (s : State) : (s.sample).bd = s.bd := rfl
@[simp] theorem sample_hi (s : State) : (s.sample).hi = s.hi := rfl
@[simp] theorem sample_lo (s : State) : (s.sample).lo = s.lo := rfl
@[simp] theorem sample_saBytes (s : State) : (s.sample).saBytes = s.saBytes := rfl
@[simp] theorem sample_fpr (s : State) : (s.sample).fpr = s.fpr := rfl
@[simp] theorem sample_acc (s : State) : (s.sample).acc = s.acc := rfl
@[simp] theorem sample_fcr31 (s : State) : (s.sample).fcr31 = s.fcr31 := rfl
@[simp] theorem sample_perf (s : State) : (s.sample).perf = s.perf := rfl
@[simp] theorem sample_mem (s : State) : (s.sample).mem = s.mem := rfl
@[simp] theorem sample_stored (s : State) : (s.sample).stored = s.stored := rfl
@[simp] theorem sample_memMap (s : State) : (s.sample).memMap = s.memMap := rfl
@[simp] theorem sample_int0 (s : State) : (s.sample).int0 = s.tick.int0 := rfl
@[simp] theorem sample_int1 (s : State) : (s.sample).int1 = s.tick.int1 := rfl
@[simp] theorem sample_env (s : State) : (s.sample).env = s.env.tail := rfl
@[simp] theorem sample_draws (s : State) : (s.sample).draws = s.draws := rfl

/-! ## resetEvent -/

@[simp] theorem resetEvent_gpr (s : State) : (resetEvent s).gpr = s.gpr := rfl
@[simp] theorem resetEvent_pc (s : State) : (resetEvent s).pc = 0xBFC00000 := rfl
@[simp] theorem resetEvent_npc (s : State) : (resetEvent s).npc = 0xBFC00004 := rfl
@[simp] theorem resetEvent_bd (s : State) : (resetEvent s).bd = false := rfl
@[simp] theorem resetEvent_hi (s : State) : (resetEvent s).hi = s.hi := rfl
@[simp] theorem resetEvent_lo (s : State) : (resetEvent s).lo = s.lo := rfl
@[simp] theorem resetEvent_saBytes (s : State) : (resetEvent s).saBytes = s.saBytes := rfl
@[simp] theorem resetEvent_fpr (s : State) : (resetEvent s).fpr = s.fpr := rfl
@[simp] theorem resetEvent_acc (s : State) : (resetEvent s).acc = s.acc := rfl
@[simp] theorem resetEvent_fcr31 (s : State) : (resetEvent s).fcr31 = s.fcr31 := rfl
@[simp] theorem resetEvent_mem (s : State) : (resetEvent s).mem = s.mem := rfl
@[simp] theorem resetEvent_stored (s : State) : (resetEvent s).stored = s.stored := rfl
@[simp] theorem resetEvent_memMap (s : State) : (resetEvent s).memMap = s.memMap := rfl
@[simp] theorem resetEvent_int0 (s : State) : (resetEvent s).int0 = s.int0 := rfl
@[simp] theorem resetEvent_int1 (s : State) : (resetEvent s).int1 = s.int1 := rfl
@[simp] theorem resetEvent_env (s : State) : (resetEvent s).env = s.env := rfl
@[simp] theorem resetEvent_draws (s : State) : (resetEvent s).draws = s.draws := rfl

/-! ## placeWord -/

@[simp] theorem placeWord_gpr (s : State) (a : Addr) (w : Word) : (s.placeWord a w).gpr = s.gpr := rfl
@[simp] theorem placeWord_pc (s : State) (a : Addr) (w : Word) : (s.placeWord a w).pc = s.pc := rfl
@[simp] theorem placeWord_npc (s : State) (a : Addr) (w : Word) : (s.placeWord a w).npc = s.npc := rfl
@[simp] theorem placeWord_bd (s : State) (a : Addr) (w : Word) : (s.placeWord a w).bd = s.bd := rfl
@[simp] theorem placeWord_hi (s : State) (a : Addr) (w : Word) : (s.placeWord a w).hi = s.hi := rfl
@[simp] theorem placeWord_lo (s : State) (a : Addr) (w : Word) : (s.placeWord a w).lo = s.lo := rfl
@[simp] theorem placeWord_saBytes (s : State) (a : Addr) (w : Word) : (s.placeWord a w).saBytes = s.saBytes := rfl
@[simp] theorem placeWord_fpr (s : State) (a : Addr) (w : Word) : (s.placeWord a w).fpr = s.fpr := rfl
@[simp] theorem placeWord_acc (s : State) (a : Addr) (w : Word) : (s.placeWord a w).acc = s.acc := rfl
@[simp] theorem placeWord_fcr31 (s : State) (a : Addr) (w : Word) : (s.placeWord a w).fcr31 = s.fcr31 := rfl
@[simp] theorem placeWord_cop0 (s : State) (a : Addr) (w : Word) : (s.placeWord a w).cop0 = s.cop0 := rfl
@[simp] theorem placeWord_dbg (s : State) (a : Addr) (w : Word) : (s.placeWord a w).dbg = s.dbg := rfl
@[simp] theorem placeWord_perf (s : State) (a : Addr) (w : Word) : (s.placeWord a w).perf = s.perf := rfl
@[simp] theorem placeWord_mem (s : State) (a : Addr) (w : Word) :
    (s.placeWord a w).mem = s.mem.writeBytes a (w.setWidth 128) 4 := rfl
@[simp] theorem placeWord_memMap (s : State) (a : Addr) (w : Word) : (s.placeWord a w).memMap = s.memMap := rfl
@[simp] theorem placeWord_int0 (s : State) (a : Addr) (w : Word) : (s.placeWord a w).int0 = s.int0 := rfl
@[simp] theorem placeWord_int1 (s : State) (a : Addr) (w : Word) : (s.placeWord a w).int1 = s.int1 := rfl
@[simp] theorem placeWord_env (s : State) (a : Addr) (w : Word) : (s.placeWord a w).env = s.env := rfl
@[simp] theorem placeWord_draws (s : State) (a : Addr) (w : Word) : (s.placeWord a w).draws = s.draws := rfl

end Sys2Proof.Machine
end

