-- ==== Sys2Proof/Laws/Registers.lean ====
section
/-! SUPPORT. Halves and lanes of a 128-bit value, and reading a register after a write. -/

namespace Sys2Proof.Machine

/-! ## Halves -/

@[simp] theorem lowD_joinD (h l : Dword) : lowD (joinD h l) = l := by
  unfold lowD joinD
  rw [BitVec.extractLsb'_append_eq_of_add_le (by decide)]; simp

@[simp] theorem highD_joinD (h l : Dword) : highD (joinD h l) = h := by
  unfold highD joinD
  rw [BitVec.extractLsb'_append_eq_of_le (by decide)]; simp

@[simp] theorem joinD_highD_lowD (q : Quad) : joinD (highD q) (lowD q) = q := by
  apply BitVec.eq_of_getLsbD_eq
  intro k hk
  simp only [joinD, highD, lowD, BitVec.getLsbD_append, BitVec.getLsbD_extractLsb']
  split
  · simp_all
  · have : k - 64 < 64 := by omega
    have h2 : 64 + (k - 64) = k := by omega
    simp_all

/-- Two quadwords with equal halves are equal. -/
theorem quad_ext {p q : Quad} (hh : highD p = highD q) (hl : lowD p = lowD q) : p = q := by
  rw [← joinD_highD_lowD p, ← joinD_highD_lowD q, hh, hl]

@[simp] theorem lowD_withLowD (q : Quad) (d : Dword) : lowD (withLowD q d) = d := by simp [withLowD]
@[simp] theorem highD_withLowD (q : Quad) (d : Dword) : highD (withLowD q d) = highD q := by simp [withLowD]
@[simp] theorem lowD_withHighD (q : Quad) (d : Dword) : lowD (withHighD q d) = lowD q := by simp [withHighD]
@[simp] theorem highD_withHighD (q : Quad) (d : Dword) : highD (withHighD q d) = d := by simp [withHighD]
@[simp] theorem lowD_zero : lowD 0#128 = 0#64 := by decide
@[simp] theorem highD_zero : highD 0#128 = 0#64 := by decide

@[simp] theorem lowW_joinW (h l : Word) : lowW (joinW h l) = l := by
  unfold lowW joinW
  rw [BitVec.extractLsb'_append_eq_of_add_le (by decide)]; simp

@[simp] theorem highW_joinW (h l : Word) : highW (joinW h l) = h := by
  unfold highW joinW
  rw [BitVec.extractLsb'_append_eq_of_le (by decide)]; simp

/-! ## Lanes -/

/-- Bit `i` of lane `k`. -/
theorem getLsbD_lane (w : Nat) (q : Quad) (k i : Nat) : (lane w q k).getLsbD i = (decide (i < w) && q.getLsbD (w * k + i)) := by
  simp [lane]

/-- A bit below the packed lanes' end is the bit of its lane. -/
theorem getLsbD_packLanes (w : Nat) (g : Nat → BitVec w) (n k i : Nat) (hi : i < w) (hb : w * k + i < 128) :
    (packLanes w g n).getLsbD (w * k + i) = (decide (k < n) && (g k).getLsbD i) := by
  induction n with
  | zero => simp [packLanes]
  | succ n ih =>
    simp only [packLanes, BitVec.getLsbD_or, ih, BitVec.getLsbD_shiftLeft, BitVec.getLsbD_setWidth]
    rcases Nat.lt_trichotomy k n with h | h | h
    · have h1 : w * k + i < w * n := by
        have : w * (k + 1) ≤ w * n := Nat.mul_le_mul_left w h
        rw [Nat.mul_succ] at this; omega
      simp [h, h1, Nat.lt_succ_of_lt h]
    · subst h
      have h2 : w * k + i - w * k = i := by omega
      have h3 : ¬ (w * k + i < w * k) := by omega
      simp [h2, hb, h3]
      intro _; omega
    · have h1 : w * (n + 1) ≤ w * k := Nat.mul_le_mul_left w h
      rw [Nat.mul_succ] at h1
      have h4 : (g n).getLsbD (w * k + i - w * n) = false := BitVec.getLsbD_of_ge _ _ (by omega)
      have h5 : ¬ (k < n) := by omega
      have h6 : ¬ (k < n + 1) := by omega
      simp [h4, h5, h6]

/-- Lane `k` of packed lanes is the lane that was packed. -/
theorem lane_packLanes (w : Nat) (g : Nat → BitVec w) (n k : Nat) (hk : k < n) (hw : w * n ≤ 128) :
    lane w (packLanes w g n) k = g k := by
  apply BitVec.eq_of_getLsbD_eq
  intro i hi
  have hb : w * k + i < 128 := by
    have : w * (k + 1) ≤ w * n := Nat.mul_le_mul_left w hk
    rw [Nat.mul_succ] at this; omega
  rw [getLsbD_lane, getLsbD_packLanes w g n k i hi hb]
  simp [hi, hk]

theorem lane_bytes16 (g : Nat → Byte) (k : Nat) (hk : k < 16) : lane 8 (bytes16 g) k = g k :=
  lane_packLanes 8 g 16 k hk (by decide)

theorem lane_halves8 (g : Nat → Half) (k : Nat) (hk : k < 8) : lane 16 (halves8 g) k = g k :=
  lane_packLanes 16 g 8 k hk (by decide)

theorem lane_words4 (g : Nat → Word) (k : Nat) (hk : k < 4) : lane 32 (words4 g) k = g k :=
  lane_packLanes 32 g 4 k hk (by decide)

@[simp] theorem lane_zero (w k : Nat) : lane w 0 k = 0 := by simp [lane]

/-- Lane 0 of width 64 is the lower half. -/
@[simp] theorem lane_64_zero (q : Quad) : lane 64 q 0 = lowD q := rfl

/-- Lane 1 of width 64 is the upper half. -/
@[simp] theorem lane_64_one (q : Quad) : lane 64 q 1 = highD q := rfl

/-! ## Registers -/

@[simp] theorem readQ_zero (s : State) : s.readQ 0#5 = 0#128 := rfl
@[simp] theorem readD_zero (s : State) : s.readD 0#5 = 0#64 := by simp [State.readD]
@[simp] theorem readW_zero (s : State) : s.readW 0#5 = 0#32 := by simp only [State.readW, readD_zero]; decide

/-- Reading a register of a file in which one was written. -/
theorem setGpr_get (g : Vector Quad 32) (r q : Reg) (v : Quad) (hq : q ≠ 0) :
    (setGpr g r v)[q.toNat]'q.isLt = if q = r then v else g[q.toNat]'q.isLt := by
  unfold setGpr
  by_cases h : r = 0
  · rw [if_pos h, if_neg (fun e => hq (e.trans h))]
  · rw [if_neg h]
    by_cases hqr : q = r
    · subst hqr; simp
    · have : r.toNat ≠ q.toNat := fun e => hqr (BitVec.eq_of_toNat_eq e.symm)
      simp [hqr, Vector.getElem_set_ne _ _ this]

/-- A register after a write: the written value at the register written, 0 at register 0 (10_state.md R21). -/
theorem readQ_writeQ (s : State) (r q : Reg) (v : Quad) :
    (s.writeQ r v).readQ q = if q = r then (if r = 0 then 0 else v) else s.readQ q := by
  unfold State.readQ
  by_cases hq : q = 0
  · rw [if_pos hq, if_pos hq]
    by_cases hr : q = r
    · rw [if_pos hr, if_pos (hr.symm.trans hq)]
    · rw [if_neg hr]
  · rw [if_neg hq, if_neg hq]
    simp only [writeQ_gpr, setGpr_get _ _ _ _ hq]
    by_cases h : q = r
    · rw [if_pos h, if_pos h, if_neg (fun e => hq (h.trans e))]
    · rw [if_neg h, if_neg h]

theorem readD_writeQ (s : State) (r q : Reg) (v : Quad) :
    (s.writeQ r v).readD q = if q = r then (if r = 0 then 0 else lowD v) else s.readD q := by
  unfold State.readD
  rw [readQ_writeQ]
  split
  · split
    · exact lowD_zero
    · rfl
  · rfl

theorem readD_writeD (s : State) (r q : Reg) (v : Dword) :
    (s.writeD r v).readD q = if q = r then (if r = 0 then 0 else v) else s.readD q := by
  unfold State.writeD
  rw [readD_writeQ]
  simp

/-- A write of the lower half keeps every upper half (00_scope.md R9). -/
theorem highD_readQ_writeD (s : State) (r q : Reg) (v : Dword) :
    highD ((s.writeD r v).readQ q) = highD (s.readQ q) := by
  unfold State.writeD
  rw [readQ_writeQ]
  split
  · rename_i h
    split
    · rename_i h2; rw [h, h2]; simp
    · rw [highD_withLowD, h]
  · rfl

theorem readF_writeF (s : State) (r q : Reg) (v : Word) :
    (s.writeF r v).readF q = if q = r then v else s.readF q := by
  unfold State.readF
  simp only [writeF_fpr]
  by_cases h : q = r
  · subst h; simp
  · have : r.toNat ≠ q.toNat := fun e => h (BitVec.eq_of_toNat_eq e.symm)
    simp [h, Vector.getElem_set_ne _ _ this]

/-- Registers are a function of the register file alone. -/
theorem readQ_congr {s t : State} (h : t.gpr = s.gpr) (r : Reg) : t.readQ r = s.readQ r := by
  unfold State.readQ; simp only [h]

theorem readD_congr {s t : State} (h : t.gpr = s.gpr) (r : Reg) : t.readD r = s.readD r := by
  unfold State.readD; rw [readQ_congr h]

theorem readW_congr {s t : State} (h : t.gpr = s.gpr) (r : Reg) : t.readW r = s.readW r := by
  unfold State.readW; rw [readD_congr h]

theorem readF_congr {s t : State} (h : t.fpr = s.fpr) (r : Reg) : t.readF r = s.readF r := by
  unfold State.readF; simp only [h]

@[simp] theorem readQ_advance (s : State) (r : Reg) : s.advance.readQ r = s.readQ r := readQ_congr rfl r
@[simp] theorem readD_advance (s : State) (r : Reg) : s.advance.readD r = s.readD r := readD_congr rfl r
@[simp] theorem readF_advance (s : State) (r : Reg) : s.advance.readF r = s.readF r := readF_congr rfl r

end Sys2Proof.Machine
end

