-- ==== Sys2Proof/Laws/Memory.lean ====
section
/-! SUPPORT. Memory: reading after a write, the canonical form that every operation keeps, and accesses of several bytes. -/

namespace Sys2Proof.Machine

/-! ## One byte -/

theorem Memory.wfFrom_mono {lo hi : Nat} (h : lo ≤ hi) : ∀ {m : Memory}, Memory.wfFrom hi m = true → Memory.wfFrom lo m = true
  | [], _ => rfl
  | (a, v) :: m, hm => by
    simp only [Memory.wfFrom, Bool.and_eq_true, decide_eq_true_eq] at hm ⊢
    exact ⟨⟨⟨by omega, hm.1.1.2⟩, hm.1.2⟩, hm.2⟩

/-- An address below every listed one reads as an unlisted address does. -/
theorem Memory.read_below {lo : Nat} : ∀ {m : Memory} {a : Nat}, Memory.wfFrom lo m = true → a < lo →
    Memory.read m a = Memory.unlisted
  | [], _, _, _ => rfl
  | (b, v) :: m, a, hm, ha => by
    simp only [Memory.wfFrom, Bool.and_eq_true, decide_eq_true_eq] at hm
    have hb : b ≠ a := by omega
    simp only [Memory.read, hb, if_false]
    exact Memory.read_below hm.2 (by omega)

/-- Reading after a write: the byte written at its address, every other byte as it was. -/
theorem Memory.read_write {lo : Nat} : ∀ {m : Memory} (a b : Nat) (v : Byte), Memory.wfFrom lo m = true →
    Memory.read (Memory.write m a v) b = if b = a then v else Memory.read m b
  | [], a, b, v, _ => by
    simp only [Memory.write]
    by_cases hv : v = Memory.unlisted
    · simp only [hv, if_true, Memory.read]; split <;> rfl
    · simp only [hv, if_false, Memory.read]
      by_cases h : a = b
      · simp [h]
      · simp [h, Ne.symm h]
  | (c, w) :: m, a, b, v, hm => by
    have hm' := hm
    simp only [Memory.wfFrom, Bool.and_eq_true, decide_eq_true_eq] at hm
    simp only [Memory.write]
    by_cases h1 : a < c
    · simp only [h1, if_true]
      by_cases hv : v = Memory.unlisted
      · simp only [hv, if_true]
        by_cases h : b = a
        · subst h
          rw [if_pos rfl]
          have : Memory.wfFrom c ((c, w) :: m) = true := by
            simp only [Memory.wfFrom, Bool.and_eq_true, decide_eq_true_eq]
            exact ⟨⟨⟨Nat.le_refl c, hm.1.1.2⟩, hm.1.2⟩, hm.2⟩
          exact Memory.read_below this h1
        · rw [if_neg h]
      · simp only [hv, if_false]
        by_cases h : b = a
        · simp [Memory.read, h]
        · rw [if_neg h]; simp [Memory.read, Ne.symm h]
    · simp only [h1, if_false]
      by_cases h2 : a = c
      · subst h2
        rw [if_pos rfl]
        by_cases hv : v = Memory.unlisted
        · simp only [hv, if_true]
          by_cases h : b = a
          · subst h; rw [if_pos rfl]; exact Memory.read_below hm.2 (Nat.lt_succ_self _)
          · rw [if_neg h]; simp only [Memory.read, Ne.symm h, if_false]
        · simp only [hv, if_false]
          by_cases h : b = a
          · simp [Memory.read, h]
          · rw [if_neg h]; simp [Memory.read, Ne.symm h]
      · rw [if_neg h2]
        simp only [Memory.read]
        by_cases h : c = b
        · subst h; simp [Ne.symm h2]
        · simp only [h, if_false]; exact Memory.read_write a b v hm.2

/-- A write keeps the canonical form. -/
theorem Memory.wfFrom_write {lo : Nat} : ∀ {m : Memory} {a : Nat} (v : Byte), Memory.wfFrom lo m = true → lo ≤ a → a < 2 ^ 32 →
    Memory.wfFrom lo (Memory.write m a v) = true
  | [], a, v, _, hlo, ha => by
    simp only [Memory.write]
    split
    · rfl
    · rename_i hv
      simp only [Memory.wfFrom, Bool.and_eq_true, decide_eq_true_eq, bne_iff_ne, ne_eq]
      exact ⟨⟨⟨hlo, ha⟩, hv⟩, trivial⟩
  | (c, w) :: m, a, v, hm, hlo, ha => by
    have hm' := hm
    simp only [Memory.wfFrom, Bool.and_eq_true, decide_eq_true_eq, bne_iff_ne, ne_eq] at hm
    simp only [Memory.write]
    split
    · split
      · exact hm'
      · rename_i h1 hv
        simp only [Memory.wfFrom, Bool.and_eq_true, decide_eq_true_eq, bne_iff_ne, ne_eq]
        exact ⟨⟨⟨hlo, ha⟩, hv⟩, ⟨⟨by omega, hm.1.1.2⟩, hm.1.2⟩, hm.2⟩
    · split
      · rename_i h1 h2
        subst h2
        split
        · exact Memory.wfFrom_mono (by omega) hm.2
        · rename_i hv
          simp only [Memory.wfFrom, Bool.and_eq_true, decide_eq_true_eq, bne_iff_ne, ne_eq]
          exact ⟨⟨⟨hm.1.1.1, hm.1.1.2⟩, hv⟩, hm.2⟩
      · rename_i h1 h2
        simp only [Memory.wfFrom, Bool.and_eq_true, decide_eq_true_eq, bne_iff_ne, ne_eq]
        exact ⟨hm.1, Memory.wfFrom_write v hm.2 (by omega) ha⟩

/-- A write keeps the canonical form of a whole memory. -/
theorem Memory.wf_write {m : Memory} {a : Nat} (v : Byte) (h : Memory.wf m = true) (ha : a < 2 ^ 32) :
    Memory.wf (Memory.write m a v) = true := Memory.wfFrom_write v h (Nat.zero_le a) ha

/-! ## Several bytes -/

theorem byteAddr_lt (a : Addr) (k : Nat) : byteAddr a k < 2 ^ 32 := BitVec.isLt _

theorem byteAddr_eq (a : Addr) (k : Nat) : byteAddr a k = (a.toNat + k) % 2 ^ 32 := by
  simp [byteAddr, BitVec.toNat_add]

/-- A store of several bytes keeps the canonical form. -/
theorem Memory.wf_writeBytes {m : Memory} (a : Addr) (v : Quad) (n : Nat) (h : Memory.wf m = true) :
    Memory.wf (Memory.writeBytes m a v n) = true := by
  induction n with
  | zero => exact h
  | succ n ih => exact Memory.wf_write _ ih (byteAddr_lt a n)

/-- A byte outside a store reads as before. -/
theorem Memory.read_writeBytes_outside {m : Memory} (a : Addr) (v : Quad) (n b : Nat) (h : Memory.wf m = true)
    (hb : ∀ k, k < n → b ≠ byteAddr a k) : Memory.read (Memory.writeBytes m a v n) b = Memory.read m b := by
  induction n with
  | zero => rfl
  | succ n ih =>
    simp only [Memory.writeBytes]
    rw [Memory.read_write _ _ _ (Memory.wf_writeBytes a v n h), if_neg (hb n (Nat.lt_succ_self n))]
    exact ih fun k hk => hb k (Nat.lt_succ_of_lt hk)

/-- The addresses of one access differ. -/
theorem byteAddr_ne (a : Addr) {j k : Nat} (hj : j < 2 ^ 32) (hk : k < 2 ^ 32) (h : j ≠ k) : byteAddr a j ≠ byteAddr a k := by
  rw [byteAddr_eq, byteAddr_eq]
  have := a.isLt
  omega

/-- A stored byte reads as the byte of the value. -/
theorem Memory.read_writeBytes {m : Memory} (a : Addr) (v : Quad) (n k : Nat) (h : Memory.wf m = true) (hk : k < n)
    (hn : n ≤ 16) : Memory.read (Memory.writeBytes m a v n) (byteAddr a k) = lane 8 v k := by
  induction n with
  | zero => omega
  | succ n ih =>
    simp only [Memory.writeBytes]
    rw [Memory.read_write _ _ _ (Memory.wf_writeBytes a v n h)]
    by_cases hkn : k = n
    · subst hkn; simp
    · rw [if_neg (byteAddr_ne a (by omega) (by omega) hkn)]
      exact ih (by omega) (by omega)

/-! ## Stored addresses -/

theorem storedWfFrom_mono {lo hi : Nat} (h : lo ≤ hi) : ∀ {l : List Nat}, storedWfFrom hi l = true → storedWfFrom lo l = true
  | [], _ => rfl
  | a :: l, hl => by
    simp only [storedWfFrom, Bool.and_eq_true, decide_eq_true_eq] at hl ⊢
    exact ⟨⟨by omega, hl.1.2⟩, hl.2⟩

theorem storedWfFrom_mark {lo : Nat} : ∀ {l : List Nat} {a : Nat}, storedWfFrom lo l = true → lo ≤ a → a < 2 ^ 32 →
    storedWfFrom lo (markStored l a) = true
  | [], a, _, hlo, ha => by simp [markStored, storedWfFrom, hlo]; omega
  | b :: l, a, hl, hlo, ha => by
    have hl' := hl
    simp only [storedWfFrom, Bool.and_eq_true, decide_eq_true_eq] at hl
    simp only [markStored]
    split
    · simp only [storedWfFrom, Bool.and_eq_true, decide_eq_true_eq]
      exact ⟨⟨hlo, ha⟩, ⟨by omega, hl.1.2⟩, hl.2⟩
    · split
      · exact hl'
      · simp only [storedWfFrom, Bool.and_eq_true, decide_eq_true_eq]
        exact ⟨hl.1, storedWfFrom_mark hl.2 (by omega) ha⟩

/-- Marking the bytes of a store keeps the canonical form. -/
theorem storedWf_markBytes {l : List Nat} (a : Addr) (n : Nat) (h : storedWf l = true) : storedWf (markBytes l a n) = true := by
  induction n with
  | zero => exact h
  | succ n ih => exact storedWfFrom_mark ih (Nat.zero_le _) (byteAddr_lt a n)

theorem mem_markStored (l : List Nat) (a b : Nat) : b ∈ markStored l a ↔ b = a ∨ b ∈ l := by
  induction l with
  | nil => simp [markStored]
  | cons c l ih =>
    simp only [markStored]
    split
    · simp
    · split
      · rename_i h; subst h; simp
      · simp only [List.mem_cons, ih]; tauto

/-- The marked addresses after a store: its bytes, and those marked before. -/
theorem mem_markBytes (l : List Nat) (a : Addr) (n b : Nat) : b ∈ markBytes l a n ↔ (∃ k, k < n ∧ b = byteAddr a k) ∨ b ∈ l := by
  induction n with
  | zero => simp [markBytes]
  | succ n ih =>
    simp only [markBytes, mem_markStored, ih]
    constructor
    · rintro (rfl | ⟨k, hk, rfl⟩ | h)
      · exact .inl ⟨n, Nat.lt_succ_self n, rfl⟩
      · exact .inl ⟨k, Nat.lt_succ_of_lt hk, rfl⟩
      · exact .inr h
    · rintro (⟨k, hk, rfl⟩ | h)
      · rcases Nat.lt_succ_iff_lt_or_eq.mp hk with h | h
        · exact .inr (.inl ⟨k, h, rfl⟩)
        · subst h; exact .inl rfl
      · exact .inr (.inr h)

/-- Placing an instruction word keeps both forms. -/
theorem Memory.wf_placeWord (s : State) (a : Addr) (w : Word) (h : Memory.wf s.mem = true) :
    Memory.wf (s.placeWord a w).mem = true := Memory.wf_writeBytes a _ 4 h

theorem storedWfFrom_filter {lo : Nat} (p : Nat → Bool) : ∀ {l : List Nat}, storedWfFrom lo l = true →
    storedWfFrom lo (l.filter p) = true
  | [], _ => rfl
  | a :: l, hl => by
    simp only [storedWfFrom, Bool.and_eq_true, decide_eq_true_eq] at hl
    rw [List.filter_cons]
    split
    · simp only [storedWfFrom, Bool.and_eq_true, decide_eq_true_eq]
      exact ⟨hl.1, storedWfFrom_filter p hl.2⟩
    · exact storedWfFrom_mono (by omega) (storedWfFrom_filter p hl.2)

theorem storedWf_placeWord (s : State) (a : Addr) (w : Word) (h : storedWf s.stored = true) :
    storedWf (s.placeWord a w).stored = true := storedWfFrom_filter _ h

/-- Memory after reset has the canonical form. -/
theorem Memory.wf_reset : Memory.wf State.reset.mem = true := rfl

/-! ## Loads -/

/-- Lane `k` of a loaded value is byte `k`. -/
theorem lane_readBytes (m : Memory) (a : Addr) (n k : Nat) (hk : k < n) (hn : n ≤ 16) :
    lane 8 (Memory.readBytes m a n) k = Memory.read m (byteAddr a k) :=
  lane_packLanes 8 _ n k hk (by omega)

end Sys2Proof.Machine
end

