-- ==== Sys2Proof/Laws/Frame.lean ====
section
/-! SUPPORT. The frame of each update of the state, how frames compose, and what the shared operations of the instructions do in
the terms of Sys2Proof/Safety.lean. -/

namespace Sys2Proof.Machine

/-! ## Composing frames -/

theorem Frame.refl (s : State) (changed : View → Prop) : Frame s s changed := ⟨fun _ _ => rfl, rfl, rfl⟩

theorem Frame.trans {s t u : State} {c : View → Prop} (h : Frame s t c) (h' : Frame t u c) : Frame s u c :=
  ⟨fun v hv => (h'.views v hv).trans (h.views v hv), h'.memMap.trans h.memMap, h'.env.trans h.env⟩

theorem Frame.mono {s t : State} {c d : View → Prop} (h : Frame s t c) (hcd : ∀ v, c v → d v) : Frame s t d :=
  ⟨fun v hv => h.views v (fun hc => hv (hcd v hc)), h.memMap, h.env⟩

/-- The sequencing of an instruction changes no piece of state. -/
theorem Frame.advance {s t : State} {c : View → Prop} (h : Frame s t c) : Frame s t.advance c :=
  ⟨fun v hv => (by cases v <;> rfl : View.get t.advance v = View.get t v).trans (h.views v hv), h.memMap, h.env⟩

theorem sequenced_advance {s t : State} (h : t.npc = s.npc) : Sequenced s t.advance :=
  ⟨h, congrArg (· + 4) h, rfl⟩

/-! ## Registers -/

theorem frame_writeQ (s : State) (r : Reg) (v : Quad) : Frame s (s.writeQ r v) (· ∈ [.gprLow r, .gprHigh r]) := by
  refine ⟨fun w hw => ?_, rfl, rfl⟩
  cases w with
  | gprLow q =>
    have h : q ≠ r := fun e => hw (by simp [e])
    simp only [View.get, readD_writeQ, if_neg h]
  | gprHigh q =>
    have h : q ≠ r := fun e => hw (by simp [e])
    simp only [View.get, readQ_writeQ, if_neg h]
  | _ => rfl

theorem frame_writeD (s : State) (r : Reg) (v : Dword) : Frame s (s.writeD r v) (· ∈ [.gprLow r]) := by
  refine ⟨fun w hw => ?_, rfl, rfl⟩
  cases w with
  | gprLow q =>
    have h : q ≠ r := fun e => hw (by simp [e])
    simp only [View.get, readD_writeD, if_neg h]
  | gprHigh q => simp only [View.get, highD_readQ_writeD]
  | _ => rfl

theorem frame_writeF (s : State) (r : Reg) (v : Word) : Frame s (s.writeF r v) (· ∈ [.fpr r]) := by
  refine ⟨fun w hw => ?_, rfl, rfl⟩
  cases w with
  | fpr q =>
    have h : q ≠ r := fun e => hw (by simp [e])
    simp only [View.get, readF_writeF, if_neg h]
  | _ => rfl

/-! ## HI and LO -/

theorem frame_writeHiLo (s : State) (h l : Dword) : Frame s (s.writeHiLo h l) (· ∈ [.hiLow, .loLow]) := by
  refine ⟨fun w hw => ?_, rfl, rfl⟩
  cases w <;> first | rfl | simp [View.get] at hw ⊢

theorem frame_writeHiLo1 (s : State) (h l : Dword) : Frame s (s.writeHiLo1 h l) (· ∈ [.hiHigh, .loHigh]) := by
  refine ⟨fun w hw => ?_, rfl, rfl⟩
  cases w <;> first | rfl | simp [View.get] at hw ⊢

theorem frame_writeHiLoQ (s : State) (h l : Quad) :
    Frame s (s.writeHiLoQ h l) (· ∈ [.hiLow, .hiHigh, .loLow, .loHigh]) := by
  refine ⟨fun w hw => ?_, rfl, rfl⟩
  cases w <;> first | rfl | simp at hw

/-! ## Memory -/

/-- What a store leaves alone: every byte outside it, and every other piece of state. -/
theorem frame_storeBytes (s : State) (a : Addr) (n : Nat) (v : Quad) (h : Memory.wf s.mem = true) :
    Frame s (s.storeBytes a n v) (InBytes a n) := by
  refine ⟨fun w hw => ?_, rfl, rfl⟩
  cases w with
  | byte b =>
    simp only [View.get, storeBytes_mem]
    rw [Memory.read_writeBytes_outside a v n b h]
    intro k hk e
    exact hw ⟨k, hk, .inl (by rw [e, byteAddr_eq])⟩
  | stored b =>
    have hb : b ∈ markBytes s.stored a n ↔ b ∈ s.stored := by
      rw [mem_markBytes]
      constructor
      · rintro (⟨k, hk, e⟩ | h)
        · exact absurd ⟨k, hk, .inr (by rw [e, byteAddr_eq])⟩ hw
        · exact h
      · exact .inr
    have e : (markBytes s.stored a n).contains b = s.stored.contains b := by
      rw [Bool.eq_iff_iff]; simp only [List.contains_iff_mem, hb]
    simp only [View.get, storeBytes_stored, e]
  | _ => rfl

/-- A store that a device absorbs leaves only marks. -/
theorem frame_marks (s : State) (a : Addr) (n : Nat) : Frame s { s with stored := markBytes s.stored a n } (InMarks a n) := by
  refine ⟨fun w hw => ?_, rfl, rfl⟩
  cases w with
  | stored b =>
    have hb : b ∈ markBytes s.stored a n ↔ b ∈ s.stored := by
      rw [mem_markBytes]
      constructor
      · rintro (⟨k, hk, e⟩ | h)
        · exact absurd ⟨k, hk, by rw [e, byteAddr_eq]⟩ hw
        · exact h
      · exact .inr
    have e : (markBytes s.stored a n).contains b = s.stored.contains b := by
      rw [Bool.eq_iff_iff]; simp only [List.contains_iff_mem, hb]
    simp only [View.get, e]
  | _ => rfl

/-! ## Results -/

/-- What `resultD` does: the one register, and the sequencing. -/
theorem writesLow_of_resultD {i : Instr} {s : State} {rd : Reg} {v w : Dword} (h : exec i s = resultD s rd v) (hv : v = w) :
    WritesLow i s rd w := by
  subst hv
  refine ⟨(s.writeD rd v).advance, h, ?_, (frame_writeD s rd v).advance, sequenced_advance rfl⟩
  simp [readD_writeD, afterWrite]

/-- What `resultW` does. -/
theorem writesLow_of_resultW {i : Instr} {s : State} {rd : Reg} {v : Word} {w : Dword} (h : exec i s = resultW s rd v)
    (hv : sext64 v = w) : WritesLow i s rd w := writesLow_of_resultD h hv

/-- What `resultQ` does, lane by lane. -/
theorem writesLanes_of_resultQ {i : Instr} {s : State} {rd : Reg} {q : Quad} {w n : Nat} {f : Nat → BitVec w}
    (h : exec i s = resultQ s rd q) (hq : ∀ k, k < n → lane w q k = f k) : WritesLanes w n i s rd f := by
  refine ⟨(s.writeQ rd q).advance, h, fun k hk => ?_, (frame_writeQ s rd q).advance, sequenced_advance rfl⟩
  rw [readQ_advance, readQ_writeQ, if_pos rfl]
  unfold afterWrite
  split
  · exact lane_zero w k
  · exact hq k hk

theorem writesLanes_bytes16 {i : Instr} {s : State} {rd : Reg} {g f : Nat → Byte} (h : exec i s = resultQ s rd (bytes16 g))
    (hf : ∀ k, k < 16 → g k = f k) : WritesLanes 8 16 i s rd f :=
  writesLanes_of_resultQ h fun k hk => (lane_bytes16 g k hk).trans (hf k hk)

theorem writesLanes_halves8 {i : Instr} {s : State} {rd : Reg} {g f : Nat → Half} (h : exec i s = resultQ s rd (halves8 g))
    (hf : ∀ k, k < 8 → g k = f k) : WritesLanes 16 8 i s rd f :=
  writesLanes_of_resultQ h fun k hk => (lane_halves8 g k hk).trans (hf k hk)

theorem writesLanes_words4 {i : Instr} {s : State} {rd : Reg} {g f : Nat → Word} (h : exec i s = resultQ s rd (words4 g))
    (hf : ∀ k, k < 4 → g k = f k) : WritesLanes 32 4 i s rd f :=
  writesLanes_of_resultQ h fun k hk => (lane_words4 g k hk).trans (hf k hk)

/-! ## Taking an exception -/

theorem frame_takeException (e : Exc) (s : State) :
    Frame s (takeException e s) (· ∈ [.status, .cause, .epc, .badVAddr, .badPAddr, .draws]) := by
  refine ⟨fun w hw => ?_, rfl, rfl⟩
  cases w <;> first | rfl | simp at hw

/-- Bit `j` of a word after `setBit`. -/
theorem getLsbD_setBit (w : Word) (k j : Nat) (b : Bool) (hk : k < 32) :
    (setBit w k b).getLsbD j = if j = k then b else w.getLsbD j := by
  unfold setBit
  cases b
  · simp only [Bool.false_eq_true, if_false, BitVec.getLsbD_and, BitVec.getLsbD_not, BitVec.getLsbD_shiftLeft,
      BitVec.getLsbD_one]
    by_cases h : j = k
    · subst h; simp [hk]
    · by_cases hj : j < 32
      · have : ¬ (j < k) → j - k ≠ 0 := by omega
        by_cases hlt : j < k <;> simp [h, hj, hlt]
        · intro _ h'; exact absurd h' (this hlt)
      · have hw : w.getLsbD j = false := BitVec.getLsbD_of_ge _ _ (by omega)
        simp [h, hj, hw]
  · simp only [if_true, BitVec.getLsbD_or, BitVec.getLsbD_shiftLeft, BitVec.getLsbD_one]
    by_cases h : j = k
    · subst h; simp [hk]
    · by_cases hlt : j < k
      · simp [h, hlt]
      · have : j - k ≠ 0 := by omega
        simp [h, this]

/-- Bit `j` of a word after `putField`. -/
theorem getLsbD_putField (w : Word) (lo j : Nat) {n : Nat} (v : BitVec n) (hn : lo + n ≤ 32) :
    (putField w lo v).getLsbD j = if lo ≤ j ∧ j < lo + n then v.getLsbD (j - lo) else w.getLsbD j := by
  unfold putField
  simp only [BitVec.getLsbD_or, BitVec.getLsbD_and, BitVec.getLsbD_not, BitVec.getLsbD_shiftLeft, BitVec.getLsbD_setWidth,
    BitVec.getLsbD_allOnes]
  by_cases hj : j < 32
  · by_cases h1 : lo ≤ j
    · by_cases h2 : j < lo + n
      · have h3 : j - lo < n := by omega
        have h4 : ¬ j < lo := by omega
        have h5 : j - lo < 32 := by omega
        simp [h1, h2, hj, h3, h4, h5]
      · have h3 : ¬ (j - lo < n) := by omega
        have h5 : v.getLsbD (j - lo) = false := BitVec.getLsbD_of_ge _ _ (by omega)
        simp [h2, hj, h3, h5]
    · have h4 : j < lo := by omega
      simp [h1, hj, h4]
  · have hw : w.getLsbD j = false := BitVec.getLsbD_of_ge _ _ (by omega)
    have h2 : ¬ (lo ≤ j ∧ j < lo + n) := by omega
    simp [hj, hw, h2]

/-- The coprocessor that an exception names. -/
def Exc.coprocessor : Exc → Option Nat
  | .coprocessorUnusable z => some z.val
  | _ => none

/-- Cause.CE is the number it stands for. -/
@[simp] theorem Exc.ce_toNat (e : Exc) (draws : Nat) : (e.ce draws).toNat = (e.ceNumber draws).val := by
  have := (e.ceNumber draws).isLt
  rw [Exc.ce, BitVec.toNat_ofNat, Nat.mod_eq_of_lt (by omega)]

/-- Cause.CE is never 3. -/
theorem Exc.ce_ne_three (e : Exc) (draws : Nat) : ((e.ce draws).getLsbD 1 && (e.ce draws).getLsbD 0) = false := by
  have : ∀ z : Fin 3, ((BitVec.ofNat 2 z.val).getLsbD 1 && (BitVec.ofNat 2 z.val).getLsbD 0) = false := by decide
  exact this _

/-- The whole of level-1 trap entry (60_exceptions.md R553). -/
theorem takeException_enters (e : Exc) (s : State) :
    EntersLevel1 s (takeException e s) e.isInterrupt e.code.toNat e.coprocessor e.badVAddr e.badPAddr := by
  have hc : ∀ j, (takeException e s).cop0.cause.getLsbD j
      = if j = 31 ∧ s.statusBit 1 = false then s.bd
        else if 28 ≤ j ∧ j < 30 then (e.ce s.draws).getLsbD (j - 28)
        else if 2 ≤ j ∧ j < 7 then e.code.getLsbD (j - 2) else s.cop0.cause.getLsbD j := by
    intro j
    simp only [takeException_cop0, Cop0.enterLevel1]
    cases h1 : s.cop0.status.getLsbD 1 <;> simp only [State.statusBit, h1, Bool.not_false, Bool.not_true, if_true]
    · rw [getLsbD_setBit _ _ _ _ (by decide), getLsbD_putField _ _ _ _ (by decide), getLsbD_putField _ _ _ _ (by decide)]
      simp
    · simp only [Bool.false_eq_true, if_false, Bool.true_eq_false, and_false]
      rw [getLsbD_putField _ _ _ _ (by decide), getLsbD_putField _ _ _ _ (by decide)]
  have hcode : (takeException e s).cop0.cause.extractLsb' 2 5 = e.code := by
    apply BitVec.eq_of_getLsbD_eq
    intro j hj
    have h1 : ¬ (2 + j = 31 ∧ s.statusBit 1 = false) := by omega
    have h2 : ¬ (28 ≤ 2 + j ∧ 2 + j < 30) := by omega
    have h3 : 2 ≤ 2 + j ∧ 2 + j < 7 := by omega
    have h4 : 2 + j - 2 = j := by omega
    simp only [BitVec.getLsbD_extractLsb', hj, decide_true, Bool.true_and, hc, if_neg h1, if_neg h2, if_pos h3, h4]
  have hce : (takeException e s).cop0.cause.extractLsb' 28 2 = e.ce s.draws := by
    apply BitVec.eq_of_getLsbD_eq
    intro j hj
    have h1 : ¬ (28 + j = 31 ∧ s.statusBit 1 = false) := by omega
    have h2 : 28 ≤ 28 + j ∧ 28 + j < 30 := by omega
    have h4 : 28 + j - 28 = j := by omega
    simp only [BitVec.getLsbD_extractLsb', hj, decide_true, Bool.true_and, hc, if_neg h1, if_pos h2, h4]
  refine
    { pc := rfl
      npc := rfl
      bd := rfl
      epc := ?_
      delaySlot := ?_
      excCode := by rw [hcode]
      coprocessor := ?_
      notThree := by rw [hc, hc]; simpa using e.ce_ne_three s.draws
      causeRest := ?_
      status := ?_
      badVAddr := rfl
      badPAddr := rfl
      frame := frame_takeException e s }
  · simp only [takeException_cop0, Cop0.enterLevel1, State.statusBit]
    by_cases h : s.cop0.status.getLsbD 1 = true
    · simp only [h, if_true, Bool.not_true, Bool.false_eq_true, if_false]
    · simp only [Bool.not_eq_true] at h
      simp only [h, if_true, Bool.not_false, Bool.false_eq_true, if_false]
  · rw [hc]
    by_cases h : s.statusBit 1 = true <;> simp [h]
  · intro z hz
    rw [hce]
    rw [Exc.ce_toNat]
    cases e <;> simp_all [Exc.ceNumber, Exc.coprocessor]
  · intro k hk
    simp only [causeWritten, Bool.or_eq_false_iff, Bool.and_eq_false_iff, decide_eq_false_iff_not, beq_eq_false_iff_ne,
      ne_eq] at hk
    rw [hc, if_neg (by omega), if_neg (by omega), if_neg (by omega)]
  · intro k
    simp only [State.statusBit, takeException_cop0, Cop0.enterLevel1]
    rw [getLsbD_setBit _ _ _ _ (by decide)]
    by_cases h : k = 1 <;> simp [h]

/-- An instruction that raises. -/
theorem raises_of_raise {i : Instr} {s : State} (e : Exc) (h : exec i s = raise e s) (hi : e.isInterrupt = false) :
    Raises i s e.code.toNat e.coprocessor e.badVAddr e.badPAddr := by
  refine ⟨takeException e s, h, ?_⟩
  have := takeException_enters e s
  rwa [hi] at this

/-! ## Accesses -/

/-- Clearing the low `k` bits of an address gives the block of `2 ^ k` bytes that contains it. -/
theorem and_mask_eq_blockOf (m : Word) (k : Nat) (hm : ∀ i : Fin 32, m.getLsbD i = decide (k ≤ i.val)) (a : Addr) :
    a &&& m = blockOf a (2 ^ k) := by
  have h : a &&& m = (a >>> k) <<< k := by
    apply BitVec.eq_of_getLsbD_eq
    intro i hi
    have h4 := hm ⟨i, hi⟩
    dsimp only at h4
    rw [BitVec.getLsbD_and, h4, BitVec.getLsbD_shiftLeft, BitVec.getLsbD_ushiftRight]
    by_cases h : k ≤ i
    · simp [h, hi, show k + (i - k) = i by omega, show ¬ i < k by omega]
    · simp [h, show i < k by omega]
  rw [h]
  apply BitVec.eq_of_toNat_eq
  simp [blockOf, Nat.shiftLeft_eq, Nat.shiftRight_eq_div_pow]

theorem alignWord_eq (a : Addr) : alignWord a = blockOf a 4 := and_mask_eq_blockOf _ 2 (by decide) a
theorem alignDword_eq (a : Addr) : alignDword a = blockOf a 8 := and_mask_eq_blockOf _ 3 (by decide) a
theorem alignQuad_eq (a : Addr) : alignQuad a = blockOf a 16 := and_mask_eq_blockOf _ 4 (by decide) a

/-- A mode that may access an address is not the reserved one. -/
theorem mode_ne_reserved {s : State} {a : Addr} (h : segmentAllows s.mode a = true) : s.mode ≠ .reserved := by
  intro e; rw [e] at h; cases h

/-- Alignment and segment are right: what the map says decides. -/
theorem checkAccess_allowed {s : State} {ea : Addr} {align : Nat} (kind : AccessKind) (a : Addr) (n : Nat)
    (ha : ea.toNat % align = 0) (hs : segmentAllows s.mode ea = true) :
    s.checkAccess kind ea a n align =
      match accessClass s.memMap kind a n with
      | .ram => .ram
      | .device => .device
      | .absent => if s.statusBit 12 then .stops .busErrorMasked else .raises (busError kind a) := by
  unfold State.checkAccess
  exact (if_neg (not_not.mpr ha)).trans ((if_neg (mode_ne_reserved hs)).trans (if_neg (by rw [hs]; decide)))

/-- Alignment or segment are wrong. -/
theorem checkAccess_addressError {s : State} {ea : Addr} {align : Nat} (kind : AccessKind) (a : Addr) (n : Nat)
    (h : ea.toNat % align ≠ 0 ∨ (s.mode ≠ .reserved ∧ segmentAllows s.mode ea = false)) :
    s.checkAccess kind ea a n align = .raises (addressError kind ea) := by
  unfold State.checkAccess
  by_cases ha : ea.toNat % align ≠ 0
  · rw [if_pos ha]
  · obtain ⟨hm, hs⟩ := h.resolve_left ha
    rw [if_neg ha, if_neg hm, if_pos hs]

/-- The reserved mode stops an aligned access. -/
theorem checkAccess_reserved {s : State} {ea : Addr} {align : Nat} (kind : AccessKind) (a : Addr) (n : Nat)
    (ha : ea.toNat % align = 0) (hm : s.mode = .reserved) : s.checkAccess kind ea a n align = .stops .ksuReserved := by
  unfold State.checkAccess
  rw [if_neg (not_not.mpr ha), if_pos hm]

/-- The checks pass and find ordinary memory. -/
theorem checkAccess_ram {s : State} {kind : AccessKind} {ea a : Addr} {n align : Nat} (ha : ea.toNat % align = 0)
    (hs : segmentAllows s.mode ea = true) (hm : MapGives s kind a n .ram) : s.checkAccess kind ea a n align = .ram := by
  rw [checkAccess_allowed _ _ _ ha hs, hm]

/-- The checks pass and find a device. -/
theorem checkAccess_device {s : State} {kind : AccessKind} {ea a : Addr} {n align : Nat} (ha : ea.toNat % align = 0)
    (hs : segmentAllows s.mode ea = true) (hm : MapGives s kind a n .device) :
    s.checkAccess kind ea a n align = .device := by
  rw [checkAccess_allowed _ _ _ ha hs, hm]

/-- The checks find nothing, and bus errors are signalled. -/
theorem checkAccess_busError {s : State} {kind : AccessKind} {ea a : Addr} {n align : Nat} (ha : ea.toNat % align = 0)
    (hs : segmentAllows s.mode ea = true) (hm : MapGives s kind a n .absent) (hb : s.statusBit 12 = false) :
    s.checkAccess kind ea a n align = .raises (busError kind a) := by
  rw [checkAccess_allowed _ _ _ ha hs, hm]
  simp [hb]

/-- The checks find nothing, and bus errors are not signalled. -/
theorem checkAccess_masked {s : State} {kind : AccessKind} {ea a : Addr} {n align : Nat} (ha : ea.toNat % align = 0)
    (hs : segmentAllows s.mode ea = true) (hm : MapGives s kind a n .absent) (hb : s.statusBit 12 = true) :
    s.checkAccess kind ea a n align = .stops .busErrorMasked := by
  rw [checkAccess_allowed _ _ _ ha hs, hm]
  simp [hb]

/-- What a load from ordinary memory does. -/
theorem loadThen_ram {s : State} {ea a : Addr} {n align : Nat} (k : Quad → State → State) (ha : ea.toNat % align = 0)
    (hs : segmentAllows s.mode ea = true) (hm : MapGives s .load a n .ram) :
    loadThen s ea a n align k = .next (k (s.mem.readBytes a n) s).advance := by
  unfold loadThen; rw [checkAccess_ram ha hs hm]

/-- What a store to ordinary memory does. -/
theorem storeValue_ram {s : State} {ea a : Addr} {n align : Nat} (v : Quad) (ha : ea.toNat % align = 0)
    (hs : segmentAllows s.mode ea = true) (hm : MapGives s .store a n .ram) :
    storeValue s ea a n align v = .next (s.storeBytes a n v).advance := by
  unfold storeValue; rw [checkAccess_ram ha hs hm]

/-- Everything a load can do: a value from memory, a free value with one draw, or an exception. -/
theorem loadThen_cases {s : State} {ea a : Addr} {n align : Nat} {k : Quad → State → State} {t : State}
    (h : loadThen s ea a n align k = .next t) :
    t = (k (s.mem.readBytes a n) s).advance ∨ (∃ q, t = (k q { s with draws := s.draws + 1 }).advance) ∨
      ∃ e, t = takeException e s := by
  unfold loadThen at h
  split at h
  · injection h with h; exact .inl h.symm
  · injection h with h; exact .inr (.inl ⟨_, h.symm⟩)
  · rename_i e _; injection h with h; exact .inr (.inr ⟨e, h.symm⟩)
  · cases h

/-- Everything a store can do. -/
theorem storeValue_cases {s : State} {ea a : Addr} {n align : Nat} {v : Quad} {t : State}
    (h : storeValue s ea a n align v = .next t) :
    t = (s.storeBytes a n v).advance ∨ t = State.advance { s with stored := markBytes s.stored a n } ∨
      ∃ e, t = takeException e s := by
  unfold storeValue at h
  split at h
  · injection h with h; exact .inl h.symm
  · injection h with h; exact .inr (.inl h.symm)
  · rename_i e _; injection h with h; exact .inr (.inr ⟨e, h.symm⟩)
  · cases h

/-- Whether a store has touched one of the bytes. -/
theorem anyStored_iff (l : List Nat) (a : Addr) : ∀ n, anyStored l a n = true ↔ ∃ k, k < n ∧ (a.toNat + k) % 2 ^ 32 ∈ l
  | 0 => by simp [anyStored]
  | n + 1 => by
    rw [anyStored, Bool.or_eq_true, anyStored_iff l a n, byteAddr_eq, List.contains_iff_mem]
    constructor
    · rintro (⟨k, hk, h⟩ | h)
      · exact ⟨k, Nat.lt_succ_of_lt hk, h⟩
      · exact ⟨n, Nat.lt_succ_self n, h⟩
    · rintro ⟨k, hk, h⟩
      rcases Nat.lt_succ_iff_lt_or_eq.mp hk with hk | rfl
      · exact .inl ⟨k, hk, h⟩
      · exact .inr h

/-- What a fetch from ordinary memory that no store has touched answers. -/
theorem fetch_ram {s : State} (ha : s.pc.toNat % 4 = 0) (hs : segmentAllows s.mode s.pc = true)
    (hm : MapGives s .fetch s.pc 4 .ram) (hst : ∀ k, k < 4 → (s.pc.toNat + k) % 2 ^ 32 ∉ s.stored) :
    fetch s = .word ((s.mem.readBytes s.pc 4).setWidth 32) s := by
  have h : ¬ anyStored s.stored s.pc 4 = true := fun h => by
    obtain ⟨k, hk, h⟩ := (anyStored_iff _ _ _).mp h
    exact hst k hk h
  unfold fetch fetched
  rw [checkAccess_ram ha hs hm]
  simp only [if_neg h]

/-- The maximum is one of the operands. -/
theorem fmax_eq_or (a b : Word) : fmax a b = a ∨ fmax a b = b := by unfold fmax; split <;> simp

/-- The minimum is one of the operands. -/
theorem fmin_eq_or (a b : Word) : fmin a b = a ∨ fmin a b = b := by unfold fmin; split <;> simp

/-! ## Control -/

/-- Everything a taken transfer can do. -/
theorem branchTo_cases {s t : State} {a : Addr} (h : branchTo s a = .next t) :
    s.bd = false ∧ t = { s with pc := s.npc, npc := a, bd := true } := by
  unfold branchTo at h
  split at h
  · cases h
  · rename_i hb; injection h with h; exact ⟨by simpa using hb, h.symm⟩

/-- Everything a conditional branch can do. -/
theorem branchIf_cases {c : Bool} {s t : State} {a : Addr} (h : branchIf c s a = .next t) :
    s.bd = false ∧ t = { s with pc := s.npc, npc := if c then a else s.npc + 4, bd := true } := by
  unfold branchIf at h
  cases c
  · simp only [Bool.false_eq_true, if_false, noBranch] at h ⊢
    split at h
    · cases h
    · rename_i hb; injection h with h; exact ⟨by simpa using hb, h.symm⟩
  · exact branchTo_cases h

/-- Everything a conditional branch of the likely kind can do. -/
theorem branchLikelyIf_cases {c : Bool} {s t : State} {a : Addr} (h : branchLikelyIf c s a = .next t) :
    s.bd = false ∧ t = if c then { s with pc := s.npc, npc := a, bd := true }
      else { s with pc := s.npc + 4, npc := s.npc + 8, bd := false } := by
  unfold branchLikelyIf at h
  cases c
  · simp only [Bool.false_eq_true, if_false, nullify] at h ⊢
    split at h
    · cases h
    · rename_i hb; injection h with h; exact ⟨by simpa using hb, h.symm⟩
  · simpa using branchTo_cases h

/-- Coprocessor 0 is usable. -/
theorem withCop0_usable {s : State} (h : s.cop0Usable = true) (k : Result) : withCop0 s k = k := by
  simp [withCop0, h]

/-- Coprocessor 0 is not usable. -/
theorem withCop0_unusable {s : State} (h : s.cop0Usable = false) (k : Result) :
    withCop0 s k = raise (.coprocessorUnusable 0) s := by simp [withCop0, h]

/-- Coprocessor 1 is usable. -/
theorem withCop1_usable {s : State} (h : s.cop1Usable = true) (k : Result) : withCop1 s k = k := by
  simp [withCop1, h]

/-- Coprocessor 1 is not usable. -/
theorem withCop1_unusable {s : State} (h : s.cop1Usable = false) (k : Result) :
    withCop1 s k = raise (.coprocessorUnusable 1) s := by simp [withCop1, h]

end Sys2Proof.Machine
end

