-- ==== Sys2Proof/Laws/Invariant.lean ====
section
/-! SUPPORT. How the shared operations keep the invariant `Inv` of Sys2Proof/Safety.lean: one lemma per operation. -/

namespace Sys2Proof.Machine

/-! ## Words under a mask -/

/-- A word is 0 outside a mask. -/
theorem and_not_eq_zero (w m : Word) : w &&& ~~~m = 0 ↔ ∀ k, k < 32 → m.getLsbD k = false → w.getLsbD k = false := by
  constructor
  · intro h k hk hm
    have := congrArg (·.getLsbD k) h
    rw [BitVec.getLsbD_and, BitVec.getLsbD_not, hm] at this
    simp only [hk, decide_true, Bool.not_false, Bool.and_true] at this
    exact this.trans BitVec.getLsbD_zero
  · intro h
    apply BitVec.eq_of_getLsbD_eq
    intro k hk
    rw [BitVec.getLsbD_and, BitVec.getLsbD_not]
    cases hm : m.getLsbD k
    · rw [h k hk hm]; simp
    · simp

/-- Setting a bit inside the mask. -/
theorem setBit_masked {w m : Word} {k : Nat} (b : Bool) (hk : k < 32) (hm : m.getLsbD k = true) (h : w &&& ~~~m = 0) :
    setBit w k b &&& ~~~m = 0 := by
  rw [and_not_eq_zero] at h ⊢
  intro j hj hmj
  have hjk : j ≠ k := fun e => by subst e; rw [hm] at hmj; cases hmj
  rw [getLsbD_setBit _ _ _ _ hk, if_neg hjk, h j hj hmj]

/-- Writing a field inside the mask. -/
theorem putField_masked {w m : Word} {lo n : Nat} (v : BitVec n) (hn : lo + n ≤ 32)
    (hm : ∀ k, lo ≤ k → k < lo + n → m.getLsbD k = true) (h : w &&& ~~~m = 0) : putField w lo v &&& ~~~m = 0 := by
  rw [and_not_eq_zero] at h ⊢
  intro j hj hmj
  have hjk : ¬ (lo ≤ j ∧ j < lo + n) := fun e => by rw [hm j e.1 e.2] at hmj; cases hmj
  rw [getLsbD_putField _ _ _ _ hn, if_neg hjk, h j hj hmj]

/-- FCR31 has its fixed bits when it is 0 outside its writable bits but for them. -/
theorem fcr31View_eq_iff (w : Word) : fcr31View w = w ↔
    ∀ k, k < 32 → fcr31Mask.getLsbD k = false → w.getLsbD k = fcr31Fixed.getLsbD k := by
  constructor
  · intro h k hk hm
    have := congrArg (·.getLsbD k) h
    simp only [fcr31View, BitVec.getLsbD_or, BitVec.getLsbD_and, hm, Bool.and_false, Bool.false_or] at this
    exact this.symm
  · intro h
    apply BitVec.eq_of_getLsbD_eq
    intro k hk
    simp only [fcr31View, BitVec.getLsbD_or, BitVec.getLsbD_and]
    cases hm : fcr31Mask.getLsbD k
    · rw [h k hk hm]; simp
    · have : ∀ k : Fin 32, fcr31Mask.getLsbD k.val = true → fcr31Fixed.getLsbD k.val = false := by decide
      rw [this ⟨k, hk⟩ hm]; simp

theorem fcr31View_view (v : Word) : fcr31View (fcr31View v) = fcr31View v := by
  rw [fcr31View_eq_iff]
  intro k hk hm
  simp [fcr31View, hm]

theorem fcr31View_setBit {w : Word} {k : Nat} (b : Bool) (hk : k < 32) (hm : fcr31Mask.getLsbD k = true)
    (h : fcr31View w = w) : fcr31View (setBit w k b) = setBit w k b := by
  rw [fcr31View_eq_iff] at h ⊢
  intro j hj hmj
  have hjk : j ≠ k := fun e => by subst e; rw [hm] at hmj; cases hmj
  rw [getLsbD_setBit _ _ _ _ hk, if_neg hjk, h j hj hmj]

theorem fcr31View_stick {w : Word} {k : Nat} (b : Bool) (hk : k < 32) (hm : fcr31Mask.getLsbD k = true)
    (h : fcr31View w = w) : fcr31View (stick w k b) = stick w k b := by
  unfold stick
  cases b
  · exact h
  · exact fcr31View_setBit true hk hm h

theorem fcr31View_setFlagsOU {w : Word} (fl : FpFlags) (h : fcr31View w = w) :
    fcr31View (setFlagsOU w fl) = setFlagsOU w fl :=
  fcr31View_stick _ (by decide) (by decide) (fcr31View_stick _ (by decide) (by decide)
    (fcr31View_setBit _ (by decide) (by decide) (fcr31View_setBit _ (by decide) (by decide) h)))

theorem fcr31View_setFlagsID {w : Word} (fl : FpFlags) (h : fcr31View w = w) :
    fcr31View (setFlagsID w fl) = setFlagsID w fl :=
  fcr31View_stick _ (by decide) (by decide) (fcr31View_stick _ (by decide) (by decide)
    (fcr31View_setBit _ (by decide) (by decide) (fcr31View_setBit _ (by decide) (by decide) h)))

theorem fcr31View_setFpCondition {w : Word} (c : Bool) (h : fcr31View w = w) :
    fcr31View (setFpCondition w c) = setFpCondition w c := fcr31View_setBit c (by decide) (by decide) h

/-! ## Updates -/

/-- The invariant speaks of these pieces of state only. -/
theorem Inv.of_eq {s t : State} (h : Inv s) (mem : t.mem = s.mem) (stored : t.stored = s.stored) (gpr : t.gpr = s.gpr)
    (cop0 : t.cop0 = s.cop0) (fcr31 : t.fcr31 = s.fcr31) (dbg : t.dbg = s.dbg) (perf : t.perf = s.perf)
    (sequence : t.bd = false → t.npc = t.pc + 4) : Inv t where
  mem := mem ▸ h.mem
  stored := stored ▸ h.stored
  zero := gpr ▸ h.zero
  status := cop0 ▸ h.status
  ksu := by simp only [State.statusBit, cop0]; exact h.ksu
  cause := cop0 ▸ h.cause
  coprocessor := cop0 ▸ h.coprocessor
  config := cop0 ▸ h.config
  fcr31 := fcr31 ▸ h.fcr31
  breakpoints := dbg ▸ h.breakpoints
  counters := perf ▸ h.counters
  sequence := sequence

theorem Inv.advance {s : State} (h : Inv s) : Inv s.advance := h.of_eq rfl rfl rfl rfl rfl rfl rfl fun _ => rfl

theorem Inv.writeQ {s : State} (h : Inv s) (r : Reg) (v : Quad) : Inv (s.writeQ r v) :=
  { h with
    zero := by
      show (setGpr s.gpr r v)[0] = 0
      unfold setGpr
      by_cases hr : r = 0
      · rw [if_pos hr]; exact h.zero
      · rw [if_neg hr]
        have hr' : r.toNat ≠ 0 := fun e => hr (BitVec.eq_of_toNat_eq e)
        rw [Vector.getElem_set_ne _ _ hr']
        exact h.zero }

theorem Inv.writeD {s : State} (h : Inv s) (r : Reg) (v : Dword) : Inv (s.writeD r v) := h.writeQ r _
theorem Inv.writeW {s : State} (h : Inv s) (r : Reg) (v : Word) : Inv (s.writeW r v) := h.writeD r _
theorem Inv.writeF {s : State} (h : Inv s) (r : Reg) (v : Word) : Inv (s.writeF r v) :=
  h.of_eq rfl rfl rfl rfl rfl rfl rfl h.sequence
theorem Inv.writeHiLo {s : State} (h : Inv s) (a b : Dword) : Inv (s.writeHiLo a b) :=
  h.of_eq rfl rfl rfl rfl rfl rfl rfl h.sequence
theorem Inv.writeHiLo1 {s : State} (h : Inv s) (a b : Dword) : Inv (s.writeHiLo1 a b) :=
  h.of_eq rfl rfl rfl rfl rfl rfl rfl h.sequence
theorem Inv.writeHiLoQ {s : State} (h : Inv s) (a b : Quad) : Inv (s.writeHiLoQ a b) :=
  h.of_eq rfl rfl rfl rfl rfl rfl rfl h.sequence
theorem Inv.draw {s : State} (h : Inv s) (n : Nat) : Inv { s with draws := n } :=
  h.of_eq rfl rfl rfl rfl rfl rfl rfl h.sequence

theorem Inv.writeFcr31 {s : State} (h : Inv s) (v : Word) (hv : fcr31View v = v) : Inv { s with fcr31 := v } :=
  { h with fcr31 := hv }

theorem Inv.storeBytes {s : State} (h : Inv s) (a : Addr) (n : Nat) (v : Quad) : Inv (s.storeBytes a n v) :=
  { h with mem := Memory.wf_writeBytes a v n h.mem, stored := storedWf_markBytes a n h.stored }

theorem Inv.marks {s : State} (h : Inv s) (a : Addr) (n : Nat) : Inv { s with stored := markBytes s.stored a n } :=
  { h with stored := storedWf_markBytes a n h.stored }

/-- Status, EPC, ErrorEPC, BadVAddr, BadPAddr, Count and Compare may change; what the invariant says of Status, Cause and
Config is to be shown of the new values; so is the sequencing. -/
theorem Inv.writeCop0 {s t : State} (h : Inv s) (hgpr : t.gpr = s.gpr) (hmem : t.mem = s.mem) (hst : t.stored = s.stored)
    (hf : t.fcr31 = s.fcr31) (hd : t.dbg = s.dbg) (hp : t.perf = s.perf) (status : t.cop0.status &&& ~~~statusMask = 0)
    (ksu : (t.statusBit 4 && t.statusBit 3) = false) (cause : t.cop0.cause &&& ~~~causeMask = 0)
    (coprocessor : (t.cop0.cause.getLsbD 29 && t.cop0.cause.getLsbD 28) = false) (config : t.cop0.config &&& ~~~configMask = 0) (sequence : t.bd = false → t.npc = t.pc + 4) : Inv t where
  mem := hmem ▸ h.mem
  stored := hst ▸ h.stored
  zero := hgpr ▸ h.zero
  status := status
  ksu := ksu
  cause := cause
  coprocessor := coprocessor
  config := config
  fcr31 := hf ▸ h.fcr31
  breakpoints := hd ▸ h.breakpoints
  counters := hp ▸ h.counters
  sequence := sequence

/-- Setting a bit of Status other than KSU leaves KSU alone. -/
theorem ksu_setBit (w : Word) (k : Nat) (b : Bool) (hk : k < 32) (h3 : k ≠ 3) (h4 : k ≠ 4) :
    ((setBit w k b).getLsbD 4 && (setBit w k b).getLsbD 3) = (w.getLsbD 4 && w.getLsbD 3) := by
  rw [getLsbD_setBit _ _ _ _ hk, getLsbD_setBit _ _ _ _ hk, if_neg (Ne.symm h4), if_neg (Ne.symm h3)]

/-- Setting a bit of Cause other than CE leaves CE alone. -/
theorem ce_setBit (w : Word) (k : Nat) (b : Bool) (hk : k < 32) (h8 : k ≠ 28) (h9 : k ≠ 29) :
    ((setBit w k b).getLsbD 29 && (setBit w k b).getLsbD 28) = (w.getLsbD 29 && w.getLsbD 28) := by
  rw [getLsbD_setBit _ _ _ _ hk, getLsbD_setBit _ _ _ _ hk, if_neg (Ne.symm h9), if_neg (Ne.symm h8)]

/-- Level-2 trap entry and the reset event write EXC2 and BD2, and leave CE alone. -/
theorem ce_exc2 (w : Word) (b : Bool) (code : BitVec 3) :
    ((putField (setBit w 30 b) 16 code).getLsbD 29 && (putField (setBit w 30 b) 16 code).getLsbD 28)
      = (w.getLsbD 29 && w.getLsbD 28) := by
  rw [getLsbD_putField _ _ _ _ (by decide), getLsbD_putField _ _ _ _ (by decide), if_neg (by decide), if_neg (by decide),
    ce_setBit _ _ _ (by decide) (by decide) (by decide)]

/-! ## Exceptions, events, return -/

theorem causeMask_field (lo n : Nat) (h : (lo = 2 ∧ n = 5) ∨ (lo = 28 ∧ n = 2) ∨ (lo = 16 ∧ n = 3)) :
    ∀ k, lo ≤ k → k < lo + n → causeMask.getLsbD k = true := by
  have : ∀ k : Fin 32, (2 ≤ k.val ∧ k.val < 7) ∨ (28 ≤ k.val ∧ k.val < 30) ∨ (16 ≤ k.val ∧ k.val < 19) →
      causeMask.getLsbD k.val = true := by decide
  intro k h1 h2
  exact this ⟨k, by omega⟩ (by simp only; omega)

theorem Inv.takeException {s : State} (h : Inv s) (e : Exc) : Inv (takeException e s) := by
  have hc : putField (putField s.cop0.cause 2 e.code) 28 (e.ce s.draws) &&& ~~~causeMask = 0 :=
    putField_masked _ (by decide) (causeMask_field 28 2 (by decide))
      (putField_masked _ (by decide) (causeMask_field 2 5 (by decide)) h.cause)
  refine h.writeCop0 rfl rfl rfl rfl rfl rfl (setBit_masked _ (by decide) (by decide) h.status) ?_ ?_
    (takeException_enters e s).notThree h.config fun _ => rfl
  · exact (ksu_setBit _ _ _ (by decide) (by decide) (by decide)).trans h.ksu
  · simp only [takeException_cop0, Cop0.enterLevel1]
    split
    · exact setBit_masked _ (by decide) (by decide) hc
    · exact hc

theorem Inv.takeEvent2 {s : State} (h : Inv s) (e : Event2) : Inv (takeEvent2 e s) := by
  have h2 : setBit s.cop0.status 2 true &&& ~~~statusMask = 0 := setBit_masked _ (by decide) (by decide) h.status
  refine h.writeCop0 rfl rfl rfl rfl rfl rfl ?_ ?_ ?_ ((ce_exc2 _ _ _).trans h.coprocessor) h.config fun _ => rfl
  · cases e
    · exact setBit_masked _ (by decide) (by decide) h2
    · exact h2
    · exact h2
  · cases e
    · exact ((ksu_setBit _ _ _ (by decide) (by decide) (by decide)).trans
        (ksu_setBit _ _ _ (by decide) (by decide) (by decide))).trans h.ksu
    · exact (ksu_setBit _ _ _ (by decide) (by decide) (by decide)).trans h.ksu
    · exact (ksu_setBit _ _ _ (by decide) (by decide) (by decide)).trans h.ksu
  · exact putField_masked _ (by decide) (causeMask_field 16 3 (by decide))
      (setBit_masked _ (by decide) (by decide) h.cause)

theorem Inv.resetEvent {s : State} (h : Inv s) : Inv (resetEvent s) where
  mem := h.mem
  stored := h.stored
  zero := h.zero
  status := setBit_masked _ (by decide) (by decide) (setBit_masked _ (by decide) (by decide)
    (setBit_masked _ (by decide) (by decide) h.status))
  ksu := ((ksu_setBit _ _ _ (by decide) (by decide) (by decide)).trans ((ksu_setBit _ _ _ (by decide) (by decide)
    (by decide)).trans (ksu_setBit _ _ _ (by decide) (by decide) (by decide)))).trans h.ksu
  cause := putField_masked _ (by decide) (causeMask_field 16 3 (by decide)) (setBit_masked _ (by decide) (by decide) h.cause)
  coprocessor := (ce_exc2 _ _ _).trans h.coprocessor
  config := by
    have := h.config
    rw [and_not_eq_zero] at this ⊢
    intro k hk hm
    show (s.cop0.config &&& _).getLsbD k = false
    rw [BitVec.getLsbD_and, this k hk hm, Bool.false_and]
  fcr31 := h.fcr31
  breakpoints := by
    show s.dbg.bpc &&& ~~~0xE0000000#32 &&& 0xE0000000#32 = 0#32
    rw [BitVec.and_assoc, show ~~~0xE0000000#32 &&& 0xE0000000#32 = 0#32 by decide, BitVec.and_zero]
  counters := by
    show (setBit s.perf.pccr 31 false).getLsbD 31 = false
    rw [getLsbD_setBit _ _ _ _ (by decide), if_pos rfl]
  sequence := fun _ => rfl

theorem Inv.exceptionReturn {s : State} (h : Inv s) : Inv (exceptionReturn s) := by
  unfold Machine.exceptionReturn
  split
  · exact h.writeCop0 rfl rfl rfl rfl rfl rfl (setBit_masked _ (by decide) (by decide) h.status)
      ((ksu_setBit _ _ _ (by decide) (by decide) (by decide)).trans h.ksu) h.cause h.coprocessor h.config fun _ => rfl
  · exact h.writeCop0 rfl rfl rfl rfl rfl rfl (setBit_masked _ (by decide) (by decide) h.status)
      ((ksu_setBit _ _ _ (by decide) (by decide) (by decide)).trans h.ksu) h.cause h.coprocessor h.config fun _ => rfl

/-- No breakpoint is armed, so no match counts. -/
theorem Inv.enabledHits {s : State} (h : Inv s) (hit : BitVec 3) : enabledHits s.dbg.bpc hit = 0 := by
  have hb : ∀ k, s.dbg.bpc.getLsbD k = false ∨ (0xE0000000 : Word).getLsbD k = false := by
    intro k
    have := congrArg (·.getLsbD k) h.breakpoints
    rw [BitVec.getLsbD_and] at this
    exact Bool.and_eq_false_iff.mp (this.trans (BitVec.getLsbD_zero))
  have h29 : s.dbg.bpc.getLsbD 29 = false := (hb 29).resolve_right (by decide)
  have h30 : s.dbg.bpc.getLsbD 30 = false := (hb 30).resolve_right (by decide)
  have h31 : s.dbg.bpc.getLsbD 31 = false := (hb 31).resolve_right (by decide)
  unfold Machine.enabledHits
  rw [h29, h30, h31]
  simp

theorem Inv.sample {s : State} (h : Inv s) : Inv s.sample where
  mem := h.mem
  stored := h.stored
  zero := h.zero
  status := h.status
  ksu := h.ksu
  cause := by
    show (if s.tick.timerMatch then setBit s.cop0.cause 15 true else s.cop0.cause) &&& _ = 0
    split
    · exact setBit_masked _ (by decide) (by decide) h.cause
    · exact h.cause
  coprocessor := by
    show ((if s.tick.timerMatch then setBit s.cop0.cause 15 true else s.cop0.cause).getLsbD 29 &&
      (if s.tick.timerMatch then setBit s.cop0.cause 15 true else s.cop0.cause).getLsbD 28) = false
    split
    · exact (ce_setBit _ _ _ (by decide) (by decide) (by decide)).trans h.coprocessor
    · exact h.coprocessor
  config := h.config
  fcr31 := h.fcr31
  breakpoints := by
    show (s.dbg.bpc ||| (Machine.enabledHits s.dbg.bpc s.tick.debugHit).setWidth 32) &&& 0xE0000000 = 0
    rw [h.enabledHits]
    simpa using h.breakpoints
  counters := h.counters
  sequence := h.sequence

/-! ## What the instructions answer -/

/-- Whatever next state a result has, the invariant holds of it. -/
def Result.Keeps (r : Result) : Prop := ∀ t, r = .next t → Inv t

theorem keeps_next {t : State} (h : Inv t) : Result.Keeps (.next t) := by
  intro u e; injection e with e; exact e ▸ h

theorem keeps_fault (f : Fault) : Result.Keeps (.fault f) := by intro u e; cases e

theorem keeps_refused (r : Refusal) : Result.Keeps (.refused r) := by intro u e; cases e

theorem keeps_raise {s : State} (h : Inv s) (e : Exc) : Result.Keeps (raise e s) := keeps_next (h.takeException e)

theorem keeps_resultD {s : State} (h : Inv s) (r : Reg) (v : Dword) : Result.Keeps (resultD s r v) :=
  keeps_next (h.writeD r v).advance

theorem keeps_resultW {s : State} (h : Inv s) (r : Reg) (v : Word) : Result.Keeps (resultW s r v) :=
  keeps_next (h.writeW r v).advance

theorem keeps_resultQ {s : State} (h : Inv s) (r : Reg) (v : Quad) : Result.Keeps (resultQ s r v) :=
  keeps_next (h.writeQ r v).advance

theorem keeps_resultWChecked {s : State} (h : Inv s) (c : Bool) (r : Reg) (v : Word) :
    Result.Keeps (resultWChecked s c r v) := by
  unfold resultWChecked
  split
  · exact keeps_raise h _
  · exact keeps_resultW h _ _

theorem keeps_resultDChecked {s : State} (h : Inv s) (c : Bool) (r : Reg) (v : Dword) :
    Result.Keeps (resultDChecked s c r v) := by
  unfold resultDChecked
  split
  · exact keeps_raise h _
  · exact keeps_resultD h _ _

theorem keeps_trapIf {s : State} (h : Inv s) (c : Bool) : Result.Keeps (trapIf c s) := by
  unfold trapIf
  split
  · exact keeps_raise h _
  · exact keeps_next h.advance

theorem keeps_resultMul {s : State} (h : Inv s) (r : Reg) (p : Dword) : Result.Keeps (resultMul s r p) :=
  keeps_next ((h.writeHiLo _ _).writeW _ _).advance

theorem keeps_resultMul1 {s : State} (h : Inv s) (r : Reg) (p : Dword) : Result.Keeps (resultMul1 s r p) :=
  keeps_next ((h.writeHiLo1 _ _).writeW _ _).advance

theorem keeps_resultDiv {s : State} (h : Inv s) (qr : Int × Int) : Result.Keeps (resultDiv s qr) :=
  keeps_next (h.writeHiLo _ _).advance

theorem keeps_resultDiv1 {s : State} (h : Inv s) (qr : Int × Int) : Result.Keeps (resultDiv1 s qr) :=
  keeps_next (h.writeHiLo1 _ _).advance

theorem keeps_resultMulPair {s : State} (h : Inv s) (r : Reg) (p q : Dword) : Result.Keeps (resultMulPair s r p q) :=
  keeps_next ((h.writeHiLoQ _ _).writeQ _ _).advance

theorem keeps_resultSlots {s : State} (h : Inv s) (r : Reg) (p : Nat → Word) : Result.Keeps (resultSlots s r p) :=
  keeps_next ((h.writeHiLoQ _ _).writeQ _ _).advance

theorem keeps_resultHorizontal {s : State} (h : Inv s) (r : Reg) (q : Nat → Word) :
    Result.Keeps (resultHorizontal s r q) := keeps_next (((h.writeHiLoQ _ _).writeQ _ _).draw _).advance

theorem keeps_resultDivPair {s : State} (h : Inv s) (p q : Int × Int) : Result.Keeps (resultDivPair s p q) :=
  keeps_next (h.writeHiLoQ _ _).advance

theorem keeps_loadThen {s : State} (h : Inv s) (ea a : Addr) (n align : Nat) (k : Quad → State → State)
    (hk : ∀ v u, Inv u → Inv (k v u)) : Result.Keeps (loadThen s ea a n align k) := by
  intro t e
  rcases loadThen_cases e with rfl | ⟨q, rfl⟩ | ⟨x, rfl⟩
  · exact (hk _ _ h).advance
  · exact (hk _ _ (h.draw _)).advance
  · exact h.takeException x

theorem keeps_storeValue {s : State} (h : Inv s) (ea a : Addr) (n align : Nat) (v : Quad) :
    Result.Keeps (storeValue s ea a n align v) := by
  intro t e
  rcases storeValue_cases e with rfl | rfl | ⟨x, rfl⟩
  · exact (h.storeBytes a n v).advance
  · exact (h.marks a n).advance
  · exact h.takeException x

theorem keeps_branchTo {s : State} (h : Inv s) (a : Addr) : Result.Keeps (branchTo s a) := by
  intro t e
  obtain ⟨-, rfl⟩ := branchTo_cases e
  exact h.of_eq rfl rfl rfl rfl rfl rfl rfl (by simp)

theorem keeps_branchIf {s : State} (h : Inv s) (c : Bool) (a : Addr) : Result.Keeps (branchIf c s a) := by
  intro t e
  obtain ⟨-, rfl⟩ := branchIf_cases e
  exact h.of_eq rfl rfl rfl rfl rfl rfl rfl (by simp)

theorem keeps_branchLikelyIf {s : State} (h : Inv s) (c : Bool) (a : Addr) : Result.Keeps (branchLikelyIf c s a) := by
  intro t e
  obtain ⟨-, rfl⟩ := branchLikelyIf_cases e
  cases c
  · refine h.of_eq rfl rfl rfl rfl rfl rfl rfl fun _ => ?_
    show s.npc + 8 = s.npc + 4 + 4
    rw [BitVec.add_assoc]
    rfl
  · exact h.of_eq rfl rfl rfl rfl rfl rfl rfl (by simp)

theorem keeps_withCop0 {s : State} (h : Inv s) {k : Result} (hk : Result.Keeps k) : Result.Keeps (withCop0 s k) := by
  unfold withCop0
  split
  · exact hk
  · exact keeps_raise h _

theorem keeps_withCop1 {s : State} (h : Inv s) {k : Result} (hk : Result.Keeps k) : Result.Keeps (withCop1 s k) := by
  unfold withCop1
  split
  · exact hk
  · exact keeps_raise h _

end Sys2Proof.Machine
end

