-- ==== Sys2Proof/Laws/Launch.lean ====
section
/-! SUPPORT. Launched programs: what their entry state holds, and everything a step of their run can do. -/

namespace Sys2Proof.Machine

theorem foldl_writeQ (l : List (Reg × Quad)) (s : State) :
    ∃ g, l.foldl (fun s r => s.writeQ r.1 r.2) s = { s with gpr := g } := by
  induction l generalizing s with
  | nil => exact ⟨s.gpr, rfl⟩
  | cons a l ih => obtain ⟨g, h⟩ := ih (s.writeQ a.1 a.2); exact ⟨g, h⟩

theorem foldl_writeF (l : List (Reg × Word)) (s : State) :
    ∃ f, l.foldl (fun s r => s.writeF r.1 r.2) s = { s with fpr := f } := by
  induction l generalizing s with
  | nil => exact ⟨s.fpr, rfl⟩
  | cons a l ih => obtain ⟨f, h⟩ := ih (s.writeF a.1 a.2); exact ⟨f, h⟩

/-- The entry state differs from `bare` in the general and floating-point registers only. -/
theorem LaunchState.state_eq (l : LaunchState) : ∃ g f, l.state = { l.bare with gpr := g, fpr := f } := by
  obtain ⟨g, hg⟩ := foldl_writeQ l.gpr l.bare
  obtain ⟨f, hf⟩ := foldl_writeF l.fpr { l.bare with gpr := g }
  exact ⟨g, f, by rw [LaunchState.state, hg, hf]⟩

@[simp] theorem LaunchState.state_pc (l : LaunchState) : l.state.pc = l.entry := by
  obtain ⟨g, f, h⟩ := l.state_eq; rw [h]; rfl
@[simp] theorem LaunchState.state_npc (l : LaunchState) : l.state.npc = l.entry + 4 := by
  obtain ⟨g, f, h⟩ := l.state_eq; rw [h]; rfl
@[simp] theorem LaunchState.state_bd (l : LaunchState) : l.state.bd = false := by
  obtain ⟨g, f, h⟩ := l.state_eq; rw [h]; rfl
@[simp] theorem LaunchState.state_hi (l : LaunchState) : l.state.hi = l.hi := by
  obtain ⟨g, f, h⟩ := l.state_eq; rw [h]; rfl
@[simp] theorem LaunchState.state_lo (l : LaunchState) : l.state.lo = l.lo := by
  obtain ⟨g, f, h⟩ := l.state_eq; rw [h]; rfl
@[simp] theorem LaunchState.state_saBytes (l : LaunchState) : l.state.saBytes = l.saBytes := by
  obtain ⟨g, f, h⟩ := l.state_eq; rw [h]; rfl
@[simp] theorem LaunchState.state_acc (l : LaunchState) : l.state.acc = l.acc := by
  obtain ⟨g, f, h⟩ := l.state_eq; rw [h]; rfl
@[simp] theorem LaunchState.state_fcr31 (l : LaunchState) : l.state.fcr31 = fcr31View l.fcr31 := by
  obtain ⟨g, f, h⟩ := l.state_eq; rw [h]; rfl
@[simp] theorem LaunchState.state_cop0 (l : LaunchState) : l.state.cop0 = l.cop0At := by
  obtain ⟨g, f, h⟩ := l.state_eq; rw [h]; rfl
@[simp] theorem LaunchState.state_dbg (l : LaunchState) : l.state.dbg = l.dbg := by
  obtain ⟨g, f, h⟩ := l.state_eq; rw [h]; rfl
@[simp] theorem LaunchState.state_perf (l : LaunchState) : l.state.perf = l.perf := by
  obtain ⟨g, f, h⟩ := l.state_eq; rw [h]; rfl
@[simp] theorem LaunchState.state_mem (l : LaunchState) : l.state.mem = l.memory := by
  obtain ⟨g, f, h⟩ := l.state_eq; rw [h]; rfl
@[simp] theorem LaunchState.state_stored (l : LaunchState) : l.state.stored = [] := by
  obtain ⟨g, f, h⟩ := l.state_eq; rw [h]; rfl
@[simp] theorem LaunchState.state_memMap (l : LaunchState) : l.state.memMap = l.memMap := by
  obtain ⟨g, f, h⟩ := l.state_eq; rw [h]; rfl
@[simp] theorem LaunchState.state_env (l : LaunchState) : l.state.env = l.env := by
  obtain ⟨g, f, h⟩ := l.state_eq; rw [h]; rfl

/-- The default environment allows the default answers and no others. -/
theorem SyscallEnv.allows_default (f : Answers) : SyscallEnv.default.Allows f ↔ f = defaultAnswers := by
  constructor
  · intro h; funext k c s; have := h k c s; cases c <;> exact this
  · rintro rfl k c s; cases c <;> rfl

/-- Everything a step of a launched run can go on with: a step of the machine, or a state that the environment gives at a call. -/
theorem launchedStep_ok {answer : EnvCall → State → EnvAnswer} {s t : State} (h : launchedStep answer s = .ok t) :
    step s = .next t ∨ ∃ c u, answer c u = .resume t := by
  have machine (h : machineStep s = .ok t) : step s = .next t := by
    unfold machineStep at h
    split at h
    · rename_i e; injection h with h; rw [e, h]
    · cases h
    · cases h
  unfold launchedStep at h
  split at h
  · split at h
    · rename_i c _
      generalize ha : answer c _ = a at h
      cases a with
      | endOfRun => cases h
      | resume u => injection h with h; exact .inr ⟨_, _, h ▸ ha⟩
      | trap => exact .inl (machine h)
    · exact .inl (machine h)
  · exact .inl (machine h)

end Sys2Proof.Machine
end

