-- ==== Sys2Proof/Tests/Slice0.lean ====
section
/-! SUPPORT. The author's tests: the smoke tests of well-formedness, the decoding of one word per instruction, single steps worked
out in the spec's test vectors, and for each statement with hypotheses a state and operands that meet them. -/

namespace Sys2Proof.Tests

open Sys2Proof.Machine

/-! ## Well-formedness -/

/-- 24 and 25 are not register numbers of MFC0 and MTC0; their neighbours are. -/
theorem test_wellFormed_refuses_cop0_24_and_25 :
    (Instr.mfc0 8 24).wellFormed = false ∧ (Instr.mfc0 8 25).wellFormed = false ∧
    (Instr.mtc0 8 24).wellFormed = false ∧ (Instr.mtc0 8 25).wellFormed = false := by decide

theorem test_wellFormed_accepts_the_neighbours :
    (Instr.mfc0 8 23).wellFormed = true ∧ (Instr.mfc0 8 26).wellFormed = true ∧
    (Instr.mtc0 8 23).wellFormed = true ∧ (Instr.mtc0 8 31).wellFormed = true := by decide

/-! ## Decoding: the words and the assembler lines of the spec's examples, one per instruction -/

/-- A word stands for an instruction: the decoder reads it so and the encoder writes it so. -/
def Stands (w : Word) (i : Instr) : Prop := decode w = .ok i ∧ encode i = w

/-- The examples of 40_command_table.md. -/
theorem test_decode_command_table :
    Stands 0x012A4020 (.add 9 10 8) ∧
    Stands 0x012A0018 (.mult 9 10 0) ∧
    Stands 0x18800005 (.blez 4 5) ∧
    Stands 0x81280000 (.lb 9 8 0) ∧
    Stands 0x012A4021 (.addu 9 10 8) ∧
    Stands 0x012A4023 (.subu 9 10 8) ∧
    Stands 0x11090002 (.beq 8 9 2) ∧
    Stands 0x1509FFFC (.bne 8 9 65532) ∧
    Stands 0x00004010 (.mfhi 8) ∧
    Stands 0x00004812 (.mflo 9) ∧
    Stands 0x0000000C (.syscall 0) ∧
    Stands 0xAFBF0004 (.sw 29 31 4) ∧
    Stands 0x0C100008 (.jal 1048584) ∧
    Stands 0x8D28FFFC (.lw 9 8 65532) ∧
    Stands 0x01000008 (.jr 8) ∧
    Stands 0x012A001A (.div 9 10) ∧
    Stands 0x04900010 (.bltzal 4 16) ∧
    Stands 0x04910010 (.bgezal 4 16) ∧
    Stands 0x3C08ABCD (.lui 8 43981) ∧
    Stands 0x012A4024 (.and 9 10 8) :=
  ⟨⟨rfl, rfl⟩,
   ⟨rfl, rfl⟩, ⟨rfl, rfl⟩, ⟨rfl, rfl⟩, ⟨rfl, rfl⟩, ⟨rfl, rfl⟩, ⟨rfl, rfl⟩, ⟨rfl, rfl⟩, ⟨rfl, rfl⟩,
   ⟨rfl, rfl⟩, ⟨rfl, rfl⟩, ⟨rfl, rfl⟩, ⟨rfl, rfl⟩, ⟨rfl, rfl⟩, ⟨rfl, rfl⟩, ⟨rfl, rfl⟩, ⟨rfl, rfl⟩, ⟨rfl, rfl⟩, ⟨rfl, rfl⟩, ⟨rfl, rfl⟩⟩

/-- The examples of 41_integer_alu.md. -/
theorem test_decode_integer :
    Stands 0x2128FFFF (.addi 9 8 65535) ∧
    Stands 0x2408FFFD (.addiu 0 8 65533) ∧
    Stands 0x012A4022 (.sub 9 10 8) ∧
    Stands 0x312800FF (.andi 9 8 255) ∧
    Stands 0x35085678 (.ori 8 8 22136) ∧
    Stands 0x01204025 (.or 9 0 8) ∧
    Stands 0x012A4026 (.xor 9 10 8) ∧
    Stands 0x39280001 (.xori 9 8 1) ∧
    Stands 0x01204027 (.nor 9 0 8) ∧
    Stands 0x012A082A (.slt 9 10 1) ∧
    Stands 0x2928000A (.slti 9 8 10) ∧
    Stands 0x012A402B (.sltu 9 10 8) ∧
    Stands 0x2D280001 (.sltiu 9 8 1) ∧
    Stands 0x012A400B (.movn 9 10 8) ∧
    Stands 0x012A400A (.movz 9 10 8) ∧
    Stands 0x012A402C (.dadd 9 10 8) ∧
    Stands 0x61280001 (.daddi 9 8 1) ∧
    Stands 0x6528FFFF (.daddiu 9 8 65535) ∧
    Stands 0x012A402D (.daddu 9 10 8) ∧
    Stands 0x012A402E (.dsub 9 10 8) ∧
    Stands 0x012A402F (.dsubu 9 10 8) :=
  ⟨⟨rfl, rfl⟩,
   ⟨rfl, rfl⟩, ⟨rfl, rfl⟩, ⟨rfl, rfl⟩, ⟨rfl, rfl⟩, ⟨rfl, rfl⟩, ⟨rfl, rfl⟩, ⟨rfl, rfl⟩, ⟨rfl, rfl⟩,
   ⟨rfl, rfl⟩, ⟨rfl, rfl⟩, ⟨rfl, rfl⟩, ⟨rfl, rfl⟩, ⟨rfl, rfl⟩, ⟨rfl, rfl⟩, ⟨rfl, rfl⟩, ⟨rfl, rfl⟩, ⟨rfl, rfl⟩, ⟨rfl, rfl⟩, ⟨rfl, rfl⟩, ⟨rfl, rfl⟩⟩

/-- The examples of 42_shifts.md. -/
theorem test_decode_shifts :
    Stands 0x00094100 (.sll 9 8 4) ∧
    Stands 0x00094102 (.srl 9 8 4) ∧
    Stands 0x00094103 (.sra 9 8 4) ∧
    Stands 0x01494004 (.sllv 10 9 8) ∧
    Stands 0x01494006 (.srlv 10 9 8) ∧
    Stands 0x01494007 (.srav 10 9 8) ∧
    Stands 0x00094238 (.dsll 9 8 8) ∧
    Stands 0x0009423A (.dsrl 9 8 8) ∧
    Stands 0x0009423B (.dsra 9 8 8) ∧
    Stands 0x0009403C (.dsll32 9 8 0) ∧
    Stands 0x0009403E (.dsrl32 9 8 0) ∧
    Stands 0x0009403F (.dsra32 9 8 0) ∧
    Stands 0x01494014 (.dsllv 10 9 8) ∧
    Stands 0x01494016 (.dsrlv 10 9 8) ∧
    Stands 0x01494017 (.dsrav 10 9 8) :=
  ⟨⟨rfl, rfl⟩,
   ⟨rfl, rfl⟩, ⟨rfl, rfl⟩, ⟨rfl, rfl⟩, ⟨rfl, rfl⟩, ⟨rfl, rfl⟩, ⟨rfl, rfl⟩, ⟨rfl, rfl⟩, ⟨rfl, rfl⟩, ⟨rfl, rfl⟩, ⟨rfl, rfl⟩, ⟨rfl, rfl⟩, ⟨rfl, rfl⟩, ⟨rfl, rfl⟩, ⟨rfl, rfl⟩⟩

/-- The examples of 43_muldiv_hilo.md. -/
theorem test_decode_muldiv :
    Stands 0x012A0019 (.multu 9 10 0) ∧
    Stands 0x012A001B (.divu 9 10) ∧
    Stands 0x712A4018 (.mult1 9 10 8) ∧
    Stands 0x712A0019 (.multu1 9 10 0) ∧
    Stands 0x712A001A (.div1 9 10) ∧
    Stands 0x712A001B (.divu1 9 10) ∧
    Stands 0x712A0000 (.madd 9 10 0) ∧
    Stands 0x712A0001 (.maddu 9 10 0) ∧
    Stands 0x712A0020 (.madd1 9 10 0) ∧
    Stands 0x712A0021 (.maddu1 9 10 0) ∧
    Stands 0x01000011 (.mthi 8) ∧
    Stands 0x00000013 (.mtlo 0) ∧
    Stands 0x70004010 (.mfhi1 8) ∧
    Stands 0x70004012 (.mflo1 8) ∧
    Stands 0x71000011 (.mthi1 8) ∧
    Stands 0x71000013 (.mtlo1 8) :=
  ⟨⟨rfl, rfl⟩,
   ⟨rfl, rfl⟩, ⟨rfl, rfl⟩, ⟨rfl, rfl⟩, ⟨rfl, rfl⟩, ⟨rfl, rfl⟩, ⟨rfl, rfl⟩, ⟨rfl, rfl⟩, ⟨rfl, rfl⟩, ⟨rfl, rfl⟩, ⟨rfl, rfl⟩, ⟨rfl, rfl⟩, ⟨rfl, rfl⟩, ⟨rfl, rfl⟩, ⟨rfl, rfl⟩, ⟨rfl, rfl⟩⟩

/-- The examples of 44_branch_jump.md. -/
theorem test_decode_branches :
    Stands 0x51090002 (.beql 8 9 2) ∧
    Stands 0x5509FFFC (.bnel 8 9 65532) ∧
    Stands 0x04810003 (.bgez 4 3) ∧
    Stands 0x04830003 (.bgezl 4 3) ∧
    Stands 0x04930010 (.bgezall 4 16) ∧
    Stands 0x1C800003 (.bgtz 4 3) ∧
    Stands 0x5C800003 (.bgtzl 4 3) ∧
    Stands 0x58800005 (.blezl 4 5) ∧
    Stands 0x04800003 (.bltz 4 3) ∧
    Stands 0x04820003 (.bltzl 4 3) ∧
    Stands 0x04920010 (.bltzall 4 16) ∧
    Stands 0x08100008 (.j 1048584) ∧
    Stands 0x0100F809 (.jalr 8 31) :=
  ⟨⟨rfl, rfl⟩,
   ⟨rfl, rfl⟩, ⟨rfl, rfl⟩, ⟨rfl, rfl⟩, ⟨rfl, rfl⟩, ⟨rfl, rfl⟩, ⟨rfl, rfl⟩, ⟨rfl, rfl⟩, ⟨rfl, rfl⟩, ⟨rfl, rfl⟩, ⟨rfl, rfl⟩, ⟨rfl, rfl⟩, ⟨rfl, rfl⟩⟩

/-- The examples of 45_load_store.md. -/
theorem test_decode_loads_and_stores :
    Stands 0x91280000 (.lbu 9 8 0) ∧
    Stands 0x85280002 (.lh 9 8 2) ∧
    Stands 0x95280002 (.lhu 9 8 2) ∧
    Stands 0x9D280000 (.lwu 9 8 0) ∧
    Stands 0xDD280008 (.ld 9 8 8) ∧
    Stands 0x79280000 (.lq 9 8 0) ∧
    Stands 0x89280003 (.lwl 9 8 3) ∧
    Stands 0x99280000 (.lwr 9 8 0) ∧
    Stands 0x69280007 (.ldl 9 8 7) ∧
    Stands 0x6D280000 (.ldr 9 8 0) ∧
    Stands 0xA1280000 (.sb 9 8 0) ∧
    Stands 0xA5280002 (.sh 9 8 2) ∧
    Stands 0xFD280008 (.sd 9 8 8) ∧
    Stands 0x7D280000 (.sq 9 8 0) ∧
    Stands 0xA9280003 (.swl 9 8 3) ∧
    Stands 0xB9280000 (.swr 9 8 0) ∧
    Stands 0xB1280007 (.sdl 9 8 7) ∧
    Stands 0xB5280000 (.sdr 9 8 0) ∧
    Stands 0xCD200000 (.pref 9 0 0) ∧
    Stands 0x0000000F (.sync 0) :=
  ⟨⟨rfl, rfl⟩,
   ⟨rfl, rfl⟩, ⟨rfl, rfl⟩, ⟨rfl, rfl⟩, ⟨rfl, rfl⟩, ⟨rfl, rfl⟩, ⟨rfl, rfl⟩, ⟨rfl, rfl⟩, ⟨rfl, rfl⟩,
   ⟨rfl, rfl⟩, ⟨rfl, rfl⟩, ⟨rfl, rfl⟩, ⟨rfl, rfl⟩, ⟨rfl, rfl⟩, ⟨rfl, rfl⟩, ⟨rfl, rfl⟩, ⟨rfl, rfl⟩, ⟨rfl, rfl⟩, ⟨rfl, rfl⟩, ⟨rfl, rfl⟩⟩

/-- The examples of 46_trap_system_cop0.md. -/
theorem test_decode_system_part_a :
    Stands 0x0000000D (.breakI 0) ∧
    Stands 0x01090030 (.tge 8 9 0) ∧
    Stands 0x01090031 (.tgeu 8 9 0) ∧
    Stands 0x01090032 (.tlt 8 9 0) ∧
    Stands 0x01090033 (.tltu 8 9 0) ∧
    Stands 0x01090034 (.teq 8 9 0) ∧
    Stands 0x01090036 (.tne 8 9 0) ∧
    Stands 0x05080005 (.tgei 8 5) ∧
    Stands 0x05090005 (.tgeiu 8 5) ∧
    Stands 0x050A0005 (.tlti 8 5) ∧
    Stands 0x050B0005 (.tltiu 8 5) ∧
    Stands 0x050C0005 (.teqi 8 5) ∧
    Stands 0x050E0005 (.tnei 8 5) ∧
    Stands 0x42000018 .eret ∧
    Stands 0x42000038 .ei ∧
    Stands 0x42000039 .di ∧
    Stands 0x40086000 (.mfc0 8 12) ∧
    Stands 0x40886000 (.mtc0 8 12) ∧
    Stands 0x41000003 (.bc0f 3) ∧
    Stands 0x41020003 (.bc0fl 3) :=
  ⟨⟨rfl, rfl⟩,
   ⟨rfl, rfl⟩, ⟨rfl, rfl⟩, ⟨rfl, rfl⟩, ⟨rfl, rfl⟩, ⟨rfl, rfl⟩, ⟨rfl, rfl⟩, ⟨rfl, rfl⟩, ⟨rfl, rfl⟩,
   ⟨rfl, rfl⟩, ⟨rfl, rfl⟩, ⟨rfl, rfl⟩, ⟨rfl, rfl⟩, ⟨rfl, rfl⟩, ⟨rfl, rfl⟩, ⟨rfl, rfl⟩, ⟨rfl, rfl⟩, ⟨rfl, rfl⟩, ⟨rfl, rfl⟩, ⟨rfl, rfl⟩⟩

/-- The examples of 46_trap_system_cop0.md. -/
theorem test_decode_system_part_b :
    Stands 0x41010003 (.bc0t 3) ∧
    Stands 0x41030003 (.bc0tl 3) ∧
    Stands 0x4008C000 (.mfbpc 8) ∧
    Stands 0x4008C002 (.mfiab 8) ∧
    Stands 0x4008C003 (.mfiabm 8) ∧
    Stands 0x4008C004 (.mfdab 8) ∧
    Stands 0x4008C005 (.mfdabm 8) ∧
    Stands 0x4008C006 (.mfdvb 8) ∧
    Stands 0x4008C007 (.mfdvbm 8) ∧
    Stands 0x4088C000 (.mtbpc 8) ∧
    Stands 0x4088C002 (.mtiab 8) ∧
    Stands 0x4088C004 (.mtdab 8) ∧
    Stands 0x4088C005 (.mtdabm 8) ∧
    Stands 0x4088C006 (.mtdvb 8) ∧
    Stands 0x4088C007 (.mtdvbm 8) ∧
    Stands 0x4008C801 (.mfpc 8 0) ∧
    Stands 0x4008C800 (.mfps 8 0) ∧
    Stands 0x4088C803 (.mtpc 8 1) ∧
    Stands 0x4088C800 (.mtps 8 0) :=
  ⟨⟨rfl, rfl⟩,
   ⟨rfl, rfl⟩, ⟨rfl, rfl⟩, ⟨rfl, rfl⟩, ⟨rfl, rfl⟩, ⟨rfl, rfl⟩, ⟨rfl, rfl⟩, ⟨rfl, rfl⟩, ⟨rfl, rfl⟩,
   ⟨rfl, rfl⟩, ⟨rfl, rfl⟩, ⟨rfl, rfl⟩, ⟨rfl, rfl⟩, ⟨rfl, rfl⟩, ⟨rfl, rfl⟩, ⟨rfl, rfl⟩, ⟨rfl, rfl⟩, ⟨rfl, rfl⟩, ⟨rfl, rfl⟩⟩

/-- The examples of 47_fpu.md. -/
theorem test_decode_floating_point_part_a :
    Stands 0x44080800 (.mfc1 8 1) ∧
    Stands 0x44880800 (.mtc1 8 1) ∧
    Stands 0x4448F800 (.cfc1 8 31) ∧
    Stands 0x44C0F800 (.ctc1 0 31) ∧
    Stands 0xC5200000 (.lwc1 9 0 0) ∧
    Stands 0xE5200004 (.swc1 9 0 4) ∧
    Stands 0x46000886 (.movS 1 2) ∧
    Stands 0x46000885 (.absS 1 2) ∧
    Stands 0x46000887 (.negS 1 2) ∧
    Stands 0x46020830 (.cFS 2 1) ∧
    Stands 0x46020832 (.cEqS 2 1) ∧
    Stands 0x46020834 (.cLtS 2 1) ∧
    Stands 0x46020836 (.cLeS 2 1) ∧
    Stands 0x45000003 (.bc1f 3) ∧
    Stands 0x45020003 (.bc1fl 3) ∧
    Stands 0x45010003 (.bc1t 3) ∧
    Stands 0x45030003 (.bc1tl 3) :=
  ⟨⟨rfl, rfl⟩,
   ⟨rfl, rfl⟩, ⟨rfl, rfl⟩, ⟨rfl, rfl⟩, ⟨rfl, rfl⟩, ⟨rfl, rfl⟩, ⟨rfl, rfl⟩, ⟨rfl, rfl⟩, ⟨rfl, rfl⟩,
   ⟨rfl, rfl⟩, ⟨rfl, rfl⟩, ⟨rfl, rfl⟩, ⟨rfl, rfl⟩, ⟨rfl, rfl⟩, ⟨rfl, rfl⟩, ⟨rfl, rfl⟩, ⟨rfl, rfl⟩⟩

/-- The examples of 47_fpu.md. -/
theorem test_decode_floating_point_part_b :
    Stands 0x460208C0 (.addS 2 1 3) ∧
    Stands 0x460208C1 (.subS 2 1 3) ∧
    Stands 0x460208C2 (.mulS 2 1 3) ∧
    Stands 0x460208C3 (.divS 2 1 3) ∧
    Stands 0x460200C4 (.sqrtS 2 3) ∧
    Stands 0x460208D6 (.rsqrtS 2 1 3) ∧
    Stands 0x460208E8 (.maxS 2 1 3) ∧
    Stands 0x460208E9 (.minS 2 1 3) ∧
    Stands 0x4602081A (.mulaS 2 1) ∧
    Stands 0x46020819 (.subaS 2 1) ∧
    Stands 0x460208DC (.maddS 2 1 3) ∧
    Stands 0x460208DD (.msubS 2 1 3) ∧
    Stands 0x4602081E (.maddaS 2 1) ∧
    Stands 0x4602081F (.msubaS 2 1) ∧
    Stands 0x468008A0 (.cvtSW 1 2) ∧
    Stands 0x460008A4 (.cvtWS 1 2) :=
  ⟨⟨rfl, rfl⟩,
   ⟨rfl, rfl⟩, ⟨rfl, rfl⟩, ⟨rfl, rfl⟩, ⟨rfl, rfl⟩, ⟨rfl, rfl⟩, ⟨rfl, rfl⟩, ⟨rfl, rfl⟩, ⟨rfl, rfl⟩, ⟨rfl, rfl⟩, ⟨rfl, rfl⟩, ⟨rfl, rfl⟩, ⟨rfl, rfl⟩, ⟨rfl, rfl⟩, ⟨rfl, rfl⟩, ⟨rfl, rfl⟩⟩

/-- The examples of 48_parallel_arith.md. -/
theorem test_decode_parallel_arith_part_a :
    Stands 0x712A4208 (.paddb 9 10 8) ∧
    Stands 0x712A4108 (.paddh 9 10 8) ∧
    Stands 0x712A4008 (.paddw 9 10 8) ∧
    Stands 0x712A4608 (.paddsb 9 10 8) ∧
    Stands 0x712A4508 (.paddsh 9 10 8) ∧
    Stands 0x712A4408 (.paddsw 9 10 8) ∧
    Stands 0x712A4628 (.paddub 9 10 8) ∧
    Stands 0x712A4528 (.padduh 9 10 8) ∧
    Stands 0x712A4428 (.padduw 9 10 8) ∧
    Stands 0x712A4248 (.psubb 9 10 8) ∧
    Stands 0x712A4148 (.psubh 9 10 8) ∧
    Stands 0x712A4048 (.psubw 9 10 8) ∧
    Stands 0x712A4648 (.psubsb 9 10 8) ∧
    Stands 0x712A4548 (.psubsh 9 10 8) ∧
    Stands 0x712A4448 (.psubsw 9 10 8) ∧
    Stands 0x712A4668 (.psubub 9 10 8) ∧
    Stands 0x712A4568 (.psubuh 9 10 8) ∧
    Stands 0x712A4468 (.psubuw 9 10 8) ∧
    Stands 0x712A4128 (.padsbh 9 10 8) ∧
    Stands 0x70094168 (.pabsh 9 8) ∧
    Stands 0x70094068 (.pabsw 9 8) ∧
    Stands 0x712A41C8 (.pmaxh 9 10 8) :=
  ⟨⟨rfl, rfl⟩,
   ⟨rfl, rfl⟩, ⟨rfl, rfl⟩, ⟨rfl, rfl⟩, ⟨rfl, rfl⟩, ⟨rfl, rfl⟩, ⟨rfl, rfl⟩, ⟨rfl, rfl⟩, ⟨rfl, rfl⟩,
   ⟨rfl, rfl⟩, ⟨rfl, rfl⟩, ⟨rfl, rfl⟩, ⟨rfl, rfl⟩, ⟨rfl, rfl⟩, ⟨rfl, rfl⟩, ⟨rfl, rfl⟩, ⟨rfl, rfl⟩, ⟨rfl, rfl⟩, ⟨rfl, rfl⟩, ⟨rfl, rfl⟩, ⟨rfl, rfl⟩, ⟨rfl, rfl⟩⟩

/-- The examples of 48_parallel_arith.md. -/
theorem test_decode_parallel_arith_part_b :
    Stands 0x712A40C8 (.pmaxw 9 10 8) ∧
    Stands 0x712A41E8 (.pminh 9 10 8) ∧
    Stands 0x712A40E8 (.pminw 9 10 8) ∧
    Stands 0x712A42A8 (.pceqb 9 10 8) ∧
    Stands 0x712A41A8 (.pceqh 9 10 8) ∧
    Stands 0x712A40A8 (.pceqw 9 10 8) ∧
    Stands 0x712A4288 (.pcgtb 9 10 8) ∧
    Stands 0x712A4188 (.pcgth 9 10 8) ∧
    Stands 0x712A4088 (.pcgtw 9 10 8) ∧
    Stands 0x712A4489 (.pand 9 10 8) ∧
    Stands 0x712A44C9 (.pxor 9 10 8) ∧
    Stands 0x712A44E9 (.pnor 9 10 8) ∧
    Stands 0x70094134 (.psllh 9 8 4) ∧
    Stands 0x70094136 (.psrlh 9 8 4) ∧
    Stands 0x70094137 (.psrah 9 8 4) ∧
    Stands 0x7009423C (.psllw 9 8 8) ∧
    Stands 0x7009423E (.psrlw 9 8 8) ∧
    Stands 0x7009423F (.psraw 9 8 8) ∧
    Stands 0x71494089 (.psllvw 10 9 8) ∧
    Stands 0x714940C9 (.psrlvw 10 9 8) ∧
    Stands 0x714940E9 (.psravw 10 9 8) :=
  ⟨⟨rfl, rfl⟩,
   ⟨rfl, rfl⟩, ⟨rfl, rfl⟩, ⟨rfl, rfl⟩, ⟨rfl, rfl⟩, ⟨rfl, rfl⟩, ⟨rfl, rfl⟩, ⟨rfl, rfl⟩, ⟨rfl, rfl⟩,
   ⟨rfl, rfl⟩, ⟨rfl, rfl⟩, ⟨rfl, rfl⟩, ⟨rfl, rfl⟩, ⟨rfl, rfl⟩, ⟨rfl, rfl⟩, ⟨rfl, rfl⟩, ⟨rfl, rfl⟩, ⟨rfl, rfl⟩, ⟨rfl, rfl⟩, ⟨rfl, rfl⟩, ⟨rfl, rfl⟩⟩

/-- The examples of 49_parallel_muldiv_pack.md. -/
theorem test_decode_parallel_pack_part_a :
    Stands 0x712A4309 (.pmultw 9 10 8) ∧
    Stands 0x712A4329 (.pmultuw 9 10 8) ∧
    Stands 0x712A4009 (.pmaddw 9 10 8) ∧
    Stands 0x712A4029 (.pmadduw 9 10 8) ∧
    Stands 0x712A4109 (.pmsubw 9 10 8) ∧
    Stands 0x712A4709 (.pmulth 9 10 8) ∧
    Stands 0x712A4409 (.pmaddh 9 10 8) ∧
    Stands 0x712A4509 (.pmsubh 9 10 8) ∧
    Stands 0x712A4449 (.phmadh 9 10 8) ∧
    Stands 0x712A4549 (.phmsbh 9 10 8) ∧
    Stands 0x712A0349 (.pdivw 9 10) ∧
    Stands 0x712A0369 (.pdivuw 9 10) ∧
    Stands 0x712A0749 (.pdivbw 9 10) ∧
    Stands 0x70004209 (.pmfhi 8) ∧
    Stands 0x70004249 (.pmflo 8) ∧
    Stands 0x71200229 (.pmthi 9) ∧
    Stands 0x71200269 (.pmtlo 9) ∧
    Stands 0x700040F0 (.pmfhlLh 8) ∧
    Stands 0x70004030 (.pmfhlLw 8) ∧
    Stands 0x70004130 (.pmfhlSh 8) ∧
    Stands 0x700040B0 (.pmfhlSlw 8) ∧
    Stands 0x70004070 (.pmfhlUw 8) ∧
    Stands 0x71200031 (.pmthlLw 9) ∧
    Stands 0x712A4688 (.pextlb 9 10 8) ∧
    Stands 0x712A4588 (.pextlh 9 10 8) ∧
    Stands 0x712A4488 (.pextlw 9 10 8) :=
  ⟨⟨rfl, rfl⟩,
   ⟨rfl, rfl⟩, ⟨rfl, rfl⟩, ⟨rfl, rfl⟩, ⟨rfl, rfl⟩, ⟨rfl, rfl⟩, ⟨rfl, rfl⟩, ⟨rfl, rfl⟩, ⟨rfl, rfl⟩,
   ⟨rfl, rfl⟩, ⟨rfl, rfl⟩, ⟨rfl, rfl⟩, ⟨rfl, rfl⟩, ⟨rfl, rfl⟩, ⟨rfl, rfl⟩, ⟨rfl, rfl⟩, ⟨rfl, rfl⟩,
   ⟨rfl, rfl⟩, ⟨rfl, rfl⟩, ⟨rfl, rfl⟩, ⟨rfl, rfl⟩, ⟨rfl, rfl⟩, ⟨rfl, rfl⟩, ⟨rfl, rfl⟩, ⟨rfl, rfl⟩, ⟨rfl, rfl⟩⟩

/-- The examples of 49_parallel_muldiv_pack.md. -/
theorem test_decode_parallel_pack_part_b :
    Stands 0x712A46A8 (.pextub 9 10 8) ∧
    Stands 0x712A45A8 (.pextuh 9 10 8) ∧
    Stands 0x712A44A8 (.pextuw 9 10 8) ∧
    Stands 0x70094788 (.pext5 9 8) ∧
    Stands 0x700947C8 (.ppac5 9 8) ∧
    Stands 0x712A46C8 (.ppacb 9 10 8) ∧
    Stands 0x712A45C8 (.ppach 9 10 8) ∧
    Stands 0x712A44C8 (.ppacw 9 10 8) ∧
    Stands 0x700946E9 (.pcpyh 9 8) ∧
    Stands 0x712A4389 (.pcpyld 9 10 8) ∧
    Stands 0x712A43A9 (.pcpyud 9 10 8) ∧
    Stands 0x700946A9 (.pexch 9 8) ∧
    Stands 0x700947A9 (.pexcw 9 8) ∧
    Stands 0x70094689 (.pexeh 9 8) ∧
    Stands 0x70094789 (.pexew 9 8) ∧
    Stands 0x712A4289 (.pinth 9 10 8) ∧
    Stands 0x712A42A9 (.pinteh 9 10 8) ∧
    Stands 0x700946C9 (.prevh 9 8) ∧
    Stands 0x700947C9 (.prot3w 9 8) ∧
    Stands 0x71204004 (.plzcw 9 8) ∧
    Stands 0x00004028 (.mfsa 8) ∧
    Stands 0x01200029 (.mtsa 9) ∧
    Stands 0x05380000 (.mtsab 9 0) ∧
    Stands 0x04190003 (.mtsah 0 3) ∧
    Stands 0x712A46E8 (.qfsrv 9 10 8) :=
  ⟨⟨rfl, rfl⟩,
   ⟨rfl, rfl⟩, ⟨rfl, rfl⟩, ⟨rfl, rfl⟩, ⟨rfl, rfl⟩, ⟨rfl, rfl⟩, ⟨rfl, rfl⟩, ⟨rfl, rfl⟩, ⟨rfl, rfl⟩,
   ⟨rfl, rfl⟩, ⟨rfl, rfl⟩, ⟨rfl, rfl⟩, ⟨rfl, rfl⟩, ⟨rfl, rfl⟩, ⟨rfl, rfl⟩, ⟨rfl, rfl⟩, ⟨rfl, rfl⟩,
   ⟨rfl, rfl⟩, ⟨rfl, rfl⟩, ⟨rfl, rfl⟩, ⟨rfl, rfl⟩, ⟨rfl, rfl⟩, ⟨rfl, rfl⟩, ⟨rfl, rfl⟩, ⟨rfl, rfl⟩⟩

/-- Fields of a pattern that must be 0 are part of the match (30_encoding.md R110, R112): SPECIAL function 1, a misplaced operand
of SLL, DIV with rd, JR with rt, MMI class 0 with an unused sub-opcode, opcode 011101 and opcode 010011. -/
theorem test_decode_rejects_reserved_words :
    decode 0x00000001 = .error .reserved ∧ decode 0x00294100 = .error .reserved ∧ decode 0x012A401A = .error .reserved ∧
    decode 0x01010008 = .error .reserved ∧ decode 0x712A42C8 = .error .reserved ∧ decode 0x74000000 = .error .reserved ∧
    decode 0x4C000000 = .error .reserved := ⟨rfl, rfl, rfl, rfl, rfl, rfl, rfl⟩

/-- 95_test_vectors.md X1, X4: a coprocessor-2 word and POR, which the hardware has and the listing lacks. -/
theorem test_decode_names_what_is_outside :
    decode 0x48000000 = .error .coprocessor2 ∧ decode 0x712A44A9 = .error (.unlisted "POR") := ⟨rfl, rfl⟩

/-- The table's numbering: the word of ADD as 32 bits, and a list of bytes that is too short. -/
theorem test_decodeTableWord :
    decodeTableWord 32 0x012A4020 = some (.add 9 10 8) ∧ decodeTableWord 32 0x00000001 = none ∧
    decodeBytes [0x20, 0x40, 0x2A] = .error .truncated := ⟨rfl, rfl, rfl⟩

/-! ## Single steps (95_test_vectors.md to 97_test_vectors_parallel.md) -/

/-- The state the vectors start from: BEV = 1, kernel mode, every coprocessor usable. -/
def base : State :=
  { State.reset with
    pc := 0x00100000
    npc := 0x00100004
    cop0 := { State.reset.cop0 with status := 0x70400000 } }

/-- `s` with general registers set. -/
def regs (s : State) (l : List (Reg × Quad)) : State := l.foldl (fun t p => t.writeQ p.1 p.2) s

/-- `s` with Status set. -/
def status (s : State) (w : Word) : State := { s with cop0 := { s.cop0 with status := w } }

/-- The next state, if there is one. -/
def after (r : Result) (s : State) : State :=
  match r with
  | .next t => t
  | _ => s

/-- The instruction that `withFetchWord` places is the one that the next step runs, from reset. -/
theorem test_withFetchWord_runs :
    step (State.reset.withFetchWord 32 0x712A46E8) = exec (.qfsrv 9 10 8) (State.reset.withFetchWord 32 0x712A46E8) := rfl

/-- ADD wraps into nothing: V153, the overflow with BEV = 0, and `rd` keeps its value. -/
theorem test_add_overflow_enters_handler :
    let s := status (regs base [(9, 0x7FFFFFFF), (10, 1), (8, 5)]) 0x70000000
    let t := after (exec (.add 9 10 8) s) s
    t.pc = 0x80000180 ∧ t.cop0.epc = 0x00100000 ∧ t.cop0.status = 0x70000002 ∧ t.readD 8 = 5 := by decide

/-- ADDU of the same operands: the sum wraps and is sign-extended (95_test_vectors.md S19). -/
theorem test_addu_wraps :
    let s := regs base [(9, 0x7FFFFFFF), (10, 1)]
    (after (exec (.addu 9 10 8) s) s).readD 8 = 0xFFFFFFFF80000000 := by decide

/-- A source that is the destination, and bits 127:64 kept: DADDU doubles `x[8]`. -/
theorem test_daddu_source_is_destination :
    let s := regs base [(8, 0x000000000000000A8000000000000001)]
    (after (exec (.daddu 8 8 8) s) s).readQ 8 = 0x000000000000000A0000000000000002 := by decide

/-- LUI sign-extends, ORI does not (95_test_vectors.md A6). -/
theorem test_lui_then_ori :
    let s := after (exec (.lui 8 0xDEAD) base) base
    (after (exec (.ori 8 8 0xBEEF) s) s).readD 8 = 0xFFFFFFFFDEADBEEF := by decide

/-- SRAV by an amount of 33 shifts by 1. -/
theorem test_srav_takes_amount_modulo_32 :
    let s := regs base [(9, 33), (10, 0x80000000)]
    (after (exec (.srav 9 10 8) s) s).readD 8 = 0xFFFFFFFFC0000000 := by decide

/-- MULT of -1 by -1 (95_test_vectors.md S16); HI1 and LO1 keep their value. -/
theorem test_mult_minus_one :
    let s := { regs base [(9, 0xFFFFFFFFFFFFFFFF), (10, 0xFFFFFFFFFFFFFFFF)] with hi := 0x7 <<< 64, lo := 0x9 <<< 64 }
    let t := after (exec (.mult 9 10 0) s) s
    t.lo = 0x00000000000000090000000000000001 ∧ t.hi = 0x00000000000000070000000000000000 ∧ t.readQ 0 = 0 := by decide

/-- DIV of -7 by 2 rounds toward zero; the remainder has the sign of the dividend. -/
theorem test_div_rounds_toward_zero :
    let s := regs base [(9, 0xFFFFFFFFFFFFFFF9), (10, 2)]
    let t := after (exec (.div 9 10) s) s
    lowD t.lo = 0xFFFFFFFFFFFFFFFD ∧ lowD t.hi = 0xFFFFFFFFFFFFFFFF := by decide

/-- BLTZAL links also when it is not taken (95_test_vectors.md S30). -/
theorem test_bltzal_links_untaken :
    let t := after (exec (.bltzal 8 2) base) base
    t.readD 31 = 0x0000000000100008 ∧ t.pc = 0x00100004 ∧ t.npc = 0x00100008 ∧ t.bd = true := by decide

/-- BEQL not taken skips its delay slot; taken backwards it goes to the branch. -/
theorem test_beql_skips_or_goes_back :
    let s := regs base [(8, 1)]
    (after (exec (.beql 8 9 0xFFFF) s) s).pc = 0x00100008 ∧ (after (exec (.beql 9 10 0xFFFF) s) s).npc = 0x00100000 := by decide

/-- JAL (95_test_vectors.md S27). -/
theorem test_jal :
    let t := after (exec (.jal 0x40010) base) base
    t.readD 31 = 0x0000000000100008 ∧ t.pc = 0x00100004 ∧ t.npc = 0x00100040 ∧ t.bd = true := by decide

/-- LW sign-extends (95_test_vectors.md S28); the memory was written by SW. -/
theorem test_sw_then_lw :
    let s := regs base [(8, 0x11223344F5667788), (29, 0x001FFFF0)]
    let t := after (exec (.sw 29 8 4) s) s
    Memory.read t.mem 0x001FFFF7 = 0xF5 ∧ (after (exec (.lw 29 9 4) t) t).readD 9 = 0xFFFFFFFFF5667788 := by decide

/-- SWL at byte 2 stores the top three bytes (V134). -/
theorem test_swl_stores_top_bytes :
    let s := regs base [(8, 0xAABBCCDD), (4, 0x00180000)]
    let t := after (exec (.swl 4 8 6) s) s
    Memory.read t.mem 0x00180004 = 0xCC ∧ Memory.read t.mem 0x00180006 = 0xAA ∧ Memory.read t.mem 0x00180007 = 0 := by decide

/-- LWL and LWR at an unaligned address put a word together. -/
theorem test_lwr_then_lwl :
    let s := { regs base [(4, 0x00180001)] with mem := [(0x00180001, 0x11), (0x00180002, 0x22), (0x00180003, 0x33), (0x00180004, 0xF4)] }
    let t := after (exec (.lwr 4 8 0) s) s
    (after (exec (.lwl 4 8 3) t) t).readD 8 = 0xFFFFFFFFF4332211 := by decide

/-- A misaligned SW reports its address (V131). -/
theorem test_misaligned_store_reports :
    let s := regs base [(8, 1), (4, 0x00180000)]
    let t := after (exec (.sw 4 8 6) s) s
    t.cop0.badVAddr = 0x00180006 ∧ t.pc = 0xBFC00380 ∧ t.mem = [] := by decide

/-- A trap in a delay slot: EPC is the branch (V152). -/
theorem test_trap_in_delay_slot :
    let s := { base with pc := 0x00100004, npc := 0x00100008, bd := true }
    let t := after (exec (.teq 0 0 0) s) s
    t.cop0.epc = 0x00100000 ∧ t.pc = 0xBFC00380 ∧ t.bd = false := by decide

/-- SYSCALL inside a handler: EPC keeps its value (95_test_vectors.md X6). -/
theorem test_syscall_in_handler_keeps_epc :
    let s := { base with cop0 := { base.cop0 with status := 0x70400002, epc := 0x00100400 } }
    let t := after (exec (.syscall 0) s) s
    t.cop0.epc = 0x00100400 ∧ t.pc = 0xBFC00380 := by decide

/-- MTC0 to Status (H6) and to Compare (H7). -/
theorem test_mtc0_status_and_compare :
    let s := regs { base with cop0 := { base.cop0 with cause := 0x8000 } } [(8, 0xFFFFFFE7), (9, 0x1000)]
    (after (exec (.mtc0 8 12) s) s).cop0.status = 0xF0C79C07 ∧
    (after (exec (.mtc0 9 11) s) s).cop0.compare = 0x1000 ∧ (after (exec (.mtc0 9 11) s) s).cop0.cause = 0 := by decide

/-- MFC0 of a register with bit 31 set (H2), and in user mode without CU[0] (H10). -/
theorem test_mfc0 :
    let s := { base with cop0 := { base.cop0 with badVAddr := 0x80180002 } }
    let u := status base 0x20400010
    (after (exec (.mfc0 8 8) s) s).readD 8 = 0xFFFFFFFF80180002 ∧ (after (exec (.mfc0 8 12) u) u).pc = 0xBFC00380 := by decide

/-- ERET with ERL and EXL both 1 (H13). -/
theorem test_eret_prefers_erl :
    let s := { base with cop0 := { base.cop0 with status := 0x70400006, errorEpc := 0x00100040, epc := 0x00100010 } }
    let t := after (exec .eret s) s
    t.pc = 0x00100040 ∧ t.npc = 0x00100044 ∧ t.cop0.status = 0x70400002 := by decide

/-- DI in user mode: not permitted with EDI = 0 (H16), permitted with EDI = 1 (H17). -/
theorem test_di_in_user_mode :
    let s := status base 0x00410010
    let u := status base 0x00430010
    (after (exec .di s) s).cop0.status = 0x00410010 ∧ (after (exec .di u) u).cop0.status = 0x00420010 := by decide

/-- MTBPC that would arm a breakpoint (H22). -/
theorem test_mtbpc_refuses_enable :
    let s := regs base [(8, 0x80000000)]
    exec (.mtbpc 8) s = .refused .breakpointEnable ∧ (after (exec (.mtbpc 9) s) s).dbg.bpc = 0 := ⟨rfl, rfl⟩

/-- ABS.S clears O and keeps SO (F5); CFC1 reads the fixed bits (F26). -/
theorem test_abs_and_cfc1 :
    let s := { base.writeF 1 0xBF800000 with fcr31 := 0x01008011 }
    let t := after (exec (.absS 1 2) s) s
    t.readF 2 = 0x3F800000 ∧ t.fcr31 = 0x01000011 ∧
    (after (exec (.cfc1 8 31) { s with fcr31 := 0x01800001 }) s).readD 8 = 0x0000000001800001 := by decide

/-- C.LT.S of 1.0 and 2.0, of -1.0 and 1.0, of 2.0 and 1.0 (F13). -/
theorem test_clt :
    flt 0x3F800000 0x40000000 = true ∧ flt 0xBF800000 0x3F800000 = true ∧ flt 0x40000000 0x3F800000 = false ∧
    flt 0xC0000000 0xBF800000 = true ∧ feq 0x3F800000 0x40000000 = false := by decide

/-- The two sources of the parallel vectors. -/
def pair : State := regs base [(9, 0x7FFFFFFF800000007FFF80017F80FF10), (10, 0x00000001FFFFFFFF000180000180FF7F)]

/-- V159, V163, V166, V175, V199 with its amounts in register 9. -/
theorem test_parallel_arith :
    (after (exec (.paddsb 9 10 8) pair) pair).readQ 8 = 0x7FFFFF0080FFFFFF7F0080017F80FE7F ∧
    (after (exec (.padduh 9 10 8) pair) pair).readQ 8 = 0x7FFFFFFFFFFFFFFF8000FFFF8100FFFF ∧
    (after (exec (.psubh 9 10 8) pair) pair).readQ 8 = 0x7FFFFFFE800100017FFE00017E00FF91 ∧
    (after (exec (.pcgtb 9 10 8) pair) pair).readQ 8 = 0xFF00000000FFFFFFFF0000FFFF000000 := by decide

/-- V217, V220, V222, V215, V225. -/
theorem test_parallel_pack :
    (after (exec (.pcpyh 10 8) pair) pair).readQ 8 = 0xFFFFFFFFFFFFFFFFFF7FFF7FFF7FFF7F ∧
    (after (exec (.pexch 10 8) pair) pair).readQ 8 = 0x0000FFFF0001FFFF000101808000FF7F ∧
    (after (exec (.prevh 10 8) pair) pair).readQ 8 = 0xFFFFFFFF00010000FF7F018080000001 ∧
    (after (exec (.pinth 9 10 8) pair) pair).readQ 8 = 0x7FFF0001FFFF8000800001800000FF7F ∧
    (after (exec (.ppac5 10 8) pair) pair).readQ 8 = 0x000000000000FFFF00000200000043EF := by decide

/-- V202, V228. -/
theorem test_plzcw_and_qfsrv :
    let s := regs base [(9, 0x00000000FFFFFFFF0000000100F00000)]
    let u := { pair with saBytes := 5 }
    (after (exec (.plzcw 9 8) s) s).readD 8 = 0x0000001E00000007 ∧
    (after (exec (.qfsrv 9 10 8) u) u).readQ 8 = 0x017F80FF1000000001FFFFFFFF000180 := by decide

/-- V235, the slots of LO and HI. -/
theorem test_pmaddh_fills_slots :
    let s := { pair with hi := 0x00000001000000010000000100000001, lo := 0x00000001000000010000000100000001 }
    let t := after (exec (.pmaddh 9 10 8) s) s
    t.hi = 0x0000000100000000000080003FFF8001 ∧ t.lo = 0x000080010000000100BF4001000078F1 ∧
    t.readQ 8 = 0x00000000000000013FFF8001000078F1 := by decide

/-- PDIVBW: V241, and -2^31 by -1, which wraps (49_parallel_muldiv_pack.md R473). -/
theorem test_pdivbw :
    let s := regs base [(9, 0x00000064FFFFFF9C0000000780000001), (10, 7), (11, 0x80000000), (12, 0xFFFF)]
    let t := after (exec (.pdivbw 9 10) s) s
    let u := after (exec (.pdivbw 11 12) s) s
    t.hi = 0x00000002FFFFFFFE00000000FFFFFFFF ∧ t.lo = 0x0000000EFFFFFFF200000001EDB6DB6E ∧ u.lo = 0x80000000 ∧ u.hi = 0 := by decide

/-- A load from where nothing is: BusErrorData while BEM is 0 (code 7, the address in BadPAddr), a stop while BEM is 1 (10_state.md R41,
00_scope.md R10). -/
theorem test_bem_masks_bus_errors :
    let gap : MemRegion :=
      { base := 0x00180000, size := 16, least := 1, most := 16, fetch := true, load := true, store := true, cls := .absent }
    let s := { regs base [(4, 0x00180000)] with memMap := [gap] }
    (after (exec (.lw 4 8 4) s) s).pc = 0xBFC00380 ∧ (after (exec (.lw 4 8 4) s) s).cop0.badPAddr = 0x00180004 ∧
    exec (.lw 4 8 4) (status s 0x70401000) = .fault .busErrorMasked := ⟨by decide, by decide, rfl⟩

/-- A program of one word, with `$ra` and LO, `f[1]` and EPC given at its entry. -/
def launch (w : Word) : LaunchState :=
  { entry := 0x00100000, memory := Memory.writeBytes [] 0x00100000 (w.setWidth 128) 4, gpr := [(31, 0x00200000)],
    fpr := [(1, 0x3F800000)], lo := 7, cop0 := { State.reset.cop0 with status := launchStatus, epc := 0x00100040 } }

theorem test_launch_sets_registers :
    (launch 0).state.readD 31 = 0x00200000 ∧ (launch 0).state.readF 1 = 0x3F800000 ∧ (launch 0).state.lo = 7 ∧
    (launch 0).state.cop0.epc = 0x00100040 ∧ (launch 0).state.cop0.status = 0x30400000 := by decide

/-- A launched run ends at a SYSCALL before it runs, and where `jr $ra` and its delay slot lead back to the launch value of `$ra`
(92_eei_decisions.md D31). -/
theorem test_launched_runs_end :
    let l := launch 0x0000000C
    let r := launch 0x03E00008
    (l.run defaultAnswers 5 false l.state).2 = some .environment ∧ (l.run defaultAnswers 5 false l.state).1.pc = 0x00100000 ∧
    (r.run defaultAnswers 5 false r.state).2 = some .returned ∧ (r.run defaultAnswers 5 false r.state).1.pc = 0x00200000 :=
  ⟨rfl, rfl, rfl, rfl⟩

/-- Another environment: it sets `$v0` and resumes after the SYSCALL; and one that leaves the SYSCALL to the machine. -/
theorem test_environment_serves :
    let l := launch 0x0000000C
    (l.run (fun _ _ s => .resume (s.writeQ 2 5).advance) 1 false l.state).1.readD 2 = 5 ∧
    (l.run (fun _ _ s => .resume (s.writeQ 2 5).advance) 1 false l.state).1.pc = 0x00100004 ∧
    (l.run (fun _ _ _ => .trap) 1 false l.state).1.pc = 0xBFC00380 := ⟨rfl, rfl, rfl⟩

/-! ## The hypotheses of the statements can be met

One theorem per statement, named after it, with a state and operands for each of its clauses, at the boundaries of their
ranges. -/

/-- User mode, no coprocessor usable. -/
def user : State := status base 0x00400010

/-- Two memories of canonical form that read alike; 16 bytes, and addresses that wrap. -/
theorem test_witness_MemoryIsLittleEndianAndCanonical :
    Memory.wf [(0, 0x80), (0xFFFFFFFF, 0x01)] = true ∧ Memory.wf ([] : Memory) = true ∧ 16 ≤ 16 ∧
    littleEndian [(0, 0x80), (0xFFFFFFFF, 0x01)] 0xFFFFFFFF 2 = 0x8001 := by decide

/-- Every mode, from Status, and the ends of the segments. -/
theorem test_witness_AddressesModesAndSegments :
    (status base 0x1A).mode = .kernel ∧ (status base 0x1C).mode = .kernel ∧ (status base 0x00).mode = .kernel ∧
    (status base 0x08).mode = .supervisor ∧ (status base 0x10).mode = .user ∧ (status base 0x18).mode = .reserved ∧
    segmentAllows .user 0x7FFFFFFF = true ∧ segmentAllows .user 0x80000000 = false ∧
    segmentAllows .supervisor 0xBFFFFFFF = false ∧ segmentAllows .supervisor 0xC0000000 = true ∧
    segmentAllows .supervisor 0xDFFFFFFF = true ∧ segmentAllows .supervisor 0xE0000000 = false := by decide

/-- Well-formed instructions with operands at the ends of their ranges. -/
theorem test_witness_DecodeInvertsEncode :
    ∀ i ∈ [Instr.mfc0 31 31, .mfc0 0 0, .mtc0 31 26, .add 31 31 31, .j 0x3FFFFFF, .syscall 0xFFFFF, .mfpc 31 31, .sync 31],
      i.wellFormed = true := by decide

/-- A state at which a step fetches and executes the word `w`. -/
def Fetches (s : State) (w : Word) : Prop :=
  s.pc.toNat % 4 = 0 ∧ segmentAllows s.mode s.pc = true ∧ MapGives s .fetch s.pc 4 .ram ∧
    (∀ k, k < 4 → (s.pc.toNat + k) % 2 ^ 32 ∉ s.stored) ∧ w = BitVec.ofNat 32 (littleEndian s.mem s.pc 4) ∧
    eventTaken s.tick s.sample = none

/-- `s` with a word at the program counter. -/
def holding (s : State) (w : Word) : State := s.withFetchWord 32 w.toNat

theorem fetches_holding {s : State} {w : Word} (hp : s.pc = 0x00100000) (hs : segmentAllows s.mode 0x00100000 = true)
    (hm : s.memMap = []) (ht : s.stored = []) (he : eventTaken (holding s w).tick (holding s w).sample = none)
    (h : w = BitVec.ofNat 32 (littleEndian (holding s w).mem 0x00100000 4)) : Fetches (holding s w) w := by
  refine ⟨?_, ?_, ?_, ?_, ?_, he⟩
  · show s.pc.toNat % 4 = 0
    rw [hp]; rfl
  · show segmentAllows s.mode s.pc = true
    rw [hp]; exact hs
  · show accessClass s.memMap .fetch s.pc 4 = .ram
    rw [hm]; rfl
  · simp [holding, State.withFetchWord, State.placeWord, ht]
  · show w = BitVec.ofNat 32 (littleEndian (holding s w).mem s.pc 4)
    rw [hp]; exact h

theorem fetches_base (w : Word) (he : eventTaken (holding base w).tick (holding base w).sample = none)
    (h : w = BitVec.ofNat 32 (littleEndian (holding base w).mem 0x00100000 4)) : Fetches (holding base w) w :=
  fetches_holding rfl (by decide) rfl rfl he h

theorem fetches_user (w : Word) (he : eventTaken (holding user w).tick (holding user w).sample = none)
    (h : w = BitVec.ofNat 32 (littleEndian (holding user w).mem 0x00100000 4)) : Fetches (holding user w) w :=
  fetches_holding rfl (by decide) rfl rfl he h

/-- Reserved words and words of unlisted instructions, of no coprocessor, of COP0 and of COP1, with the coprocessor usable and
not; a coprocessor-2 word with CU[2] = 1 and 0. -/
theorem test_witness_UndecodedWordsRaise :
    (Fetches (holding base 0x00000001) 0x00000001 ∧ decode 0x00000001 = .error .reserved) ∧
    (Fetches (holding base 0x712A44A9) 0x712A44A9 ∧ decode 0x712A44A9 = .error (.unlisted "POR")) ∧
    (Fetches (holding base 0x42000003) 0x42000003 ∧ decode 0x42000003 = .error .reserved ∧ base.cop0Usable = true) ∧
    (Fetches (holding user 0x42000002) 0x42000002 ∧ decode 0x42000002 = .error (.unlisted "TLBWI") ∧ user.cop0Usable = false) ∧
    (Fetches (holding user 0x46000010) 0x46000010 ∧ decode 0x46000010 = .error .reserved ∧ user.cop1Usable = false) ∧
    (Fetches (holding base 0x46020818) 0x46020818 ∧ decode 0x46020818 = .error (.unlisted "ADDA.S") ∧ base.cop1Usable = true) ∧
    (Fetches (holding base 0x48000000) 0x48000000 ∧ decode 0x48000000 = .error .coprocessor2 ∧ base.statusBit 30 = true) ∧
    (Fetches (holding user 0xF8000000) 0xF8000000 ∧ decode 0xF8000000 = .error .coprocessor2 ∧ user.statusBit 30 = false) :=
  ⟨⟨fetches_base _ rfl rfl, rfl⟩, ⟨fetches_base _ rfl rfl, rfl⟩, ⟨fetches_base _ rfl rfl, rfl, rfl⟩, ⟨fetches_user _ rfl rfl, rfl, rfl⟩,
    ⟨fetches_user _ rfl rfl, rfl, rfl⟩, ⟨fetches_base _ rfl rfl, rfl, rfl⟩, ⟨fetches_base _ rfl rfl, rfl, rfl⟩,
    ⟨fetches_user _ rfl rfl, rfl, rfl⟩⟩

/-- The three opcodes of coprocessor 2 and that of CACHE. -/
theorem test_witness_UndecodedWordsRaise_opcodes :
    opOf 0x48000000 = 0b010010 ∧ opOf 0xD8000000 = 0b110110 ∧ opOf 0xF8000000 = 0b111110 ∧ opOf 0xBC000000 = 0b101111 := by decide

/-- An instruction in place at reset, and one in the last word of the address space. -/
theorem test_witness_StepRunsTheDecodedInstruction :
    let met := fun (s : State) (i : Instr) => s.pc.toNat % 4 = 0 ∧ segmentAllows s.mode s.pc = true ∧
      MapGives s .fetch s.pc 4 .ram ∧ (∀ k, k < 4 → (s.pc.toNat + k) % 2 ^ 32 ∉ s.stored) ∧ i.wellFormed = true ∧
      decode (BitVec.ofNat 32 (littleEndian s.mem s.pc 4)) = .ok i ∧ eventTaken s.tick s.sample = none ∧ s.env = []
    met (State.reset.withFetchWord 32 0x012A4020) (.add 9 10 8) ∧
    met ({ base with pc := 0xFFFFFFFC, npc := 0 }.withFetchWord 32 0x4008F800) (.mfc0 8 31) :=
  ⟨⟨by decide, by decide, rfl, by simp [State.withFetchWord, State.placeWord, State.reset], rfl, rfl, rfl, rfl⟩,
    ⟨by decide, by decide, rfl, by simp [State.withFetchWord, State.placeWord, base, State.reset], rfl, rfl, rfl, rfl⟩⟩

/-- Nothing happens at this step. -/
def calm : EnvTick :=
  { reset := false, nmi := false, perfOverflow := false, debugHit := 0, int0 := false, int1 := false, timerMatch := false }

/-- A state that counts, with an armed instruction breakpoint and interrupts enabled, at a given tick. -/
def watched (t : EnvTick) : State :=
  { status base 0x00010401 with
    env := [t]
    dbg := { State.reset.dbg with bpc := 0x80000000 }
    perf := { State.reset.perf with pccr := 0x80000000 } }

/-- Each event alone, the one before it absent, and no event. -/
theorem test_witness_EventsAreTakenInOrder :
    (watched { calm with reset := true, nmi := true }).tick.reset = true ∧
    ((watched { calm with nmi := true, perfOverflow := true }).tick.reset = false ∧
      (watched { calm with nmi := true, perfOverflow := true }).tick.nmi = true) ∧
    (let s := watched { calm with perfOverflow := true, debugHit := 1 }
     s.tick.reset = false ∧ s.tick.nmi = false ∧ s.tick.perfOverflow = true ∧ s.perf.pccr.getLsbD 31 = true ∧
      s.statusBit 2 = false) ∧
    (let s := watched { calm with debugHit := 1, int0 := true }
     s.tick.perfOverflow = false ∧ debugRaises s.sample.dbg.bpc (enabledHits s.sample.dbg.bpc s.tick.debugHit) = true) ∧
    (let s := watched { calm with int0 := true }
     debugRaises s.sample.dbg.bpc (enabledHits s.sample.dbg.bpc s.tick.debugHit) = false ∧
      s.sample.interruptPending = true) ∧
    (watched calm).sample.interruptPending = false := by decide

/-- A reset tick, with every other input asserted. -/
theorem test_witness_ResetEventSetsTheStatedValues :
    let all : EnvTick :=
      { reset := true, nmi := true, perfOverflow := true, debugHit := 7, int0 := true, int1 := true, timerMatch := true }
    (watched all).tick.reset = true := rfl

/-- Each of the three sources alone; none; and a source that is masked. -/
theorem test_witness_InterruptIsTakenWhenEnabled :
    let met := fun s : State => s.tick.reset = false ∧ s.tick.nmi = false ∧ s.perf.pccr.getLsbD 31 = false ∧
      ∀ k ∈ [29, 30, 31], s.dbg.bpc.getLsbD k = false
    let enabling := fun s : State => s.statusBit 0 = true ∧ s.statusBit 16 = true ∧ s.statusBit 1 = false ∧
      s.statusBit 2 = false
    let line0 := { status base 0x00010401 with int0 := true }
    let line1 := { status base 0x00010801 with int1 := true }
    let timer := { status base 0x00018001 with cop0 := { (status base 0x00018001).cop0 with cause := 0x8000 } }
    met line0 ∧ enabling line0 ∧ line0.tick.int0 = true ∧ line0.statusBit 10 = true ∧
    met line1 ∧ enabling line1 ∧ line1.tick.int1 = true ∧ line1.statusBit 11 = true ∧
    met timer ∧ enabling timer ∧ timer.cop0.cause.getLsbD 15 = true ∧ timer.statusBit 15 = true ∧
    met base ∧ base.statusBit 0 = false ∧
    met { line0 with cop0 := { line0.cop0 with status := 0x00010001 } } := by decide

/-- A region of one byte where nothing is, for the accesses of at least `n` bytes that start there. -/
def hole (a n : Nat) : MemRegion :=
  { base := a, size := 1, least := n, most := 16, fetch := true, load := true, store := true, cls := .absent }

/-- A device at every address, for accesses of every size. -/
def everywhere : MemRegion :=
  { base := 0, size := 2 ^ 32, least := 1, most := 16, fetch := true, load := true, store := true, cls := .device }

/-- Misaligned; forbidden; the reserved mode; nothing there, with BEM 0 and 1; the last byte stored; a device. -/
theorem test_witness_FetchFailsAsStated :
    let quiet := fun s : State => s.env = [] ∧ s.interruptPending = false
    let free := fun s : State => s.stored = [] ∧ segmentAllows s.mode s.pc = true ∧ s.pc.toNat % 4 = 0
    (quiet { base with pc := 0x00100002 } ∧ 0x00100002 % 4 ≠ 0) ∧
    (quiet { user with pc := 0x80000000 } ∧ user.mode ≠ .reserved ∧ segmentAllows user.mode 0x80000000 = false) ∧
    (quiet (status base 0x18) ∧ base.pc.toNat % 4 = 0 ∧ (status base 0x18).mode = .reserved) ∧
    (let s := { base with memMap := [hole 0x00100000 4] }
     quiet s ∧ free s ∧ accessClass s.memMap .fetch s.pc 4 = .absent ∧ s.statusBit 12 = false) ∧
    (let s := { base with stored := [0x00100003] }
     quiet s ∧ accessClass s.memMap .fetch s.pc 4 = .ram ∧ (s.pc.toNat + 3) % 2 ^ 32 ∈ s.stored) ∧
    (let s := status { base with memMap := [hole 0x00100000 4] } 0x70401000
     quiet s ∧ free s ∧ accessClass s.memMap .fetch s.pc 4 = .absent ∧ s.statusBit 12 = true) ∧
    (let s := { base with memMap := [everywhere] }
     quiet s ∧ free s ∧ accessClass s.memMap .fetch s.pc 4 = .device) := by decide

/-- The invariant holds at reset. -/
theorem inv_reset : Inv State.reset := by constructor <;> decide

/-- A launch at the default Status that names a general and a floating-point register. -/
theorem test_witness_InvariantHoldsAtReset :
    let l := launch 0x0000000C
    Memory.wf l.memory = true ∧ l.cop0.status.extractLsb' 3 2 ≠ 3 ∧
    l.cop0.cause.extractLsb' 28 2 ≠ 3 ∧ (∀ k ∈ [29, 30, 31], l.dbg.bpc.getLsbD k = false) ∧
    l.perf.pccr.getLsbD 31 = false ∧ l.cop0.status = launchStatus ∧
    ((31 : Reg) ≠ 0 ∧ ((31 : Reg), (0x00200000 : Quad)) ∈ l.gpr ∧ ∀ p ∈ l.gpr, p.1 = 31 → p.2 = 0x00200000) ∧
    (((1 : Reg), (0x3F800000 : Word)) ∈ l.fpr ∧ ∀ p ∈ l.fpr, p.1 = 1 → p.2 = 0x3F800000) :=
  ⟨by decide, by decide, by decide, by decide, rfl, rfl, ⟨by decide, by simp [launch], by simp [launch]⟩, by simp [launch], by simp [launch]⟩

/-- A state of which the invariant holds, and a step from it. -/
theorem test_witness_InvariantIsKeptByEveryStep :
    let s := State.reset.withFetchWord 32 0x012A4020
    Inv s ∧ ∃ t, step s = .next t :=
  ⟨{ inv_reset with
      mem := Memory.wf_placeWord _ _ _ rfl
      stored := storedWf_placeWord _ _ _ rfl }, ⟨_, rfl⟩⟩

/-- Inputs that would raise if the machine counted or watched. -/
theorem test_witness_NoCounterOrBreakpointException :
    let s := { State.reset with env := [{ calm with perfOverflow := true, debugHit := 7 }] }
    Inv s ∧ s.tick.reset = false ∧ s.tick.nmi = false ∧ s.sample.interruptPending = false :=
  ⟨{ inv_reset with mem := rfl }, rfl, rfl, rfl⟩

/-- Sums and differences at the ends of the range: the largest that fits, and one more; the smallest, and one less. -/
theorem test_witness_CheckedSumsWriteOrRaise :
    let s := regs base [(9, 0x7FFFFFFF), (10, 1), (11, 0xFFFFFFFF80000000), (12, 0x7FFFFFFFFFFFFFFF), (13, 0x8000000000000000)]
    ((s.readW 9).toInt + (s.readW 0).toInt = 2 ^ 31 - 1 ∧ (s.readW 9).toInt + (s.readW 10).toInt = 2 ^ 31) ∧
    ((s.readW 11).toInt - (s.readW 0).toInt = -2 ^ 31 ∧ (s.readW 11).toInt - (s.readW 10).toInt = -2 ^ 31 - 1) ∧
    ((s.readD 12).toInt + (s.readD 0).toInt = 2 ^ 63 - 1 ∧ (s.readD 12).toInt + (s.readD 10).toInt = 2 ^ 63) ∧
    ((s.readD 13).toInt - (s.readD 0).toInt = -2 ^ 63 ∧ (s.readD 13).toInt - (s.readD 10).toInt = -2 ^ 63 - 1) ∧
    (s.readW 11).toInt + (0xFFFF#16).toInt = -2 ^ 31 - 1 ∧ (s.readD 13).toInt + (0x0000#16).toInt = -2 ^ 63 := by decide

/-- A move condition that is 0 and one that is not, in bit 63 only. -/
theorem test_witness_ComparisonsAndConditionalMoves :
    let s := regs base [(10, 0x8000000000000000)]
    (s.readD 0).toNat = 0 ∧ (s.readD 10).toNat ≠ 0 := by decide

/-- Division by zero, the overflow, -2^31 by 1, an ordinary one; the same for the unsigned. -/
theorem test_witness_DividesRoundTowardZero :
    let s := regs base [(9, 0xFFFFFFFF80000000), (10, 0xFFFFFFFFFFFFFFFF), (11, 1)]
    (s.readW 0).toInt = 0 ∧ ((s.readW 9).toInt = -2 ^ 31 ∧ (s.readW 10).toInt = -1) ∧ (s.readW 11).toInt = 1 ∧
    (s.readW 0).toNat = 0 ∧ (s.readW 10).toNat = 2 ^ 32 - 1 := by decide

/-- Outside a delay slot, at registers of which every condition holds or fails. -/
theorem test_witness_ConditionalBranchesTransfer :
    let s := regs base [(9, 0xFFFFFFFFFFFFFFFF), (10, 1)]
    s.bd = false ∧ (s.readD 9).toInt < 0 ∧ (s.readD 0).toInt = 0 ∧ 0 < (s.readD 10).toInt := by decide

/-- `rs` = 31, and its neighbour. -/
theorem test_witness_BranchesAndLinkAlwaysLink : base.bd = false ∧ (30 : Reg) ≠ 31 ∧ (31 : Reg) = 31 := by decide

/-- JALR: `rd` other than `rs`; both 0; both 31. -/
theorem test_witness_JumpsTransferAndLink :
    base.bd = false ∧ (31 : Reg) ≠ 30 ∧ (0 : Reg) = 0 ∧ ((31 : Reg) = 31 ∧ (31 : Reg) ≠ 0) := by decide

/-- In a delay slot, with both coprocessors usable. -/
theorem test_witness_BranchInDelaySlotStops :
    let s := { base with bd := true }
    s.bd = true ∧ s.cop0Usable = true ∧ s.cop1Usable = true ∧ (30 : Reg) ≠ 31 ∧ (31 : Reg) ≠ 30 ∧ (0 : Reg) = 0 := by decide

/-- For every width the last aligned address of the address space, in kernel mode, and of the lower half, in user mode. -/
theorem test_witness_AlignedLoadsRead :
    let s := regs base [(4, 0xFFFFFFF8)]
    let u := regs user [(4, 0x7FFFFFF8)]
    ((s.effAddr 4 7).toNat = 0xFFFFFFFF ∧ (s.effAddr 4 6).toNat % 2 = 0 ∧ (s.effAddr 4 4).toNat % 4 = 0 ∧
      (s.effAddr 4 0).toNat % 8 = 0 ∧ segmentAllows s.mode (s.effAddr 4 7) = true ∧
      segmentAllows s.mode (blockOf (s.effAddr 4 7) 16) = true) ∧
    ((u.effAddr 4 7).toNat = 0x7FFFFFFF ∧ segmentAllows u.mode (u.effAddr 4 7) = true ∧
      segmentAllows u.mode (u.effAddr 4 0) = true) := by decide

theorem test_witness_AlignedLoadsRead_all_ram (kind : AccessKind) (a : Addr) (n : Nat) : MapGives base kind a n .ram := rfl

/-- The first and the last byte of a word and of a doubleword. -/
theorem test_witness_UnalignedLoadsMerge :
    let s := regs base [(4, 0x00180000)]
    segmentAllows s.mode (s.effAddr 4 0) = true ∧ (s.effAddr 4 0).toNat % 4 = 0 ∧ (s.effAddr 4 3).toNat % 4 = 3 ∧
    (s.effAddr 4 0).toNat % 8 = 0 ∧ (s.effAddr 4 7).toNat % 8 = 7 := by decide

/-- A memory of canonical form, and the addresses of the loads. -/
theorem test_witness_StoresWriteTheirBytes :
    let s := { regs base [(4, 0xFFFFFFF8)] with mem := [(0x10, 0x01), (0xFFFFFFFF, 0x80)] }
    Memory.wf s.mem = true ∧ segmentAllows s.mode (s.effAddr 4 7) = true ∧ (s.effAddr 4 6).toNat % 2 = 0 ∧
    (s.effAddr 4 4).toNat % 4 = 0 ∧ (s.effAddr 4 0).toNat % 8 = 0 ∧ segmentAllows s.mode (blockOf (s.effAddr 4 0) 16) = true := by
  decide

/-- Misaligned; aligned but forbidden; nothing there for a word, though there is for a byte, and for the quadword forms, with BEM 0
and 1; the reserved mode. -/
theorem test_witness_FailingAccessesRaise :
    let u := regs user [(4, 0x7FFFFFFC)]
    let s := { regs base [(4, 0x00180000)] with memMap := [hole 0x00180000 4, hole 0x00180010 16] }
    u.mode ≠ .reserved ∧
    ((u.effAddr 4 2).toNat % 4 ≠ 0 ∧ (u.effAddr 4 2).toNat % 2 = 0) ∧
    ((u.effAddr 4 4).toNat % 4 = 0 ∧ segmentAllows u.mode (u.effAddr 4 4) = false) ∧
    (segmentAllows s.mode (s.effAddr 4 0) = true ∧ s.statusBit 12 = false ∧
      accessClass s.memMap .load (s.effAddr 4 0) 1 = .ram ∧ accessClass s.memMap .load (s.effAddr 4 0) 4 = .absent ∧
      accessClass s.memMap .store (blockOf (s.effAddr 4 0x1F) 16) 16 = .absent ∧ (status s 0x70401000).statusBit 12 = true) ∧
    (status base 0x18).mode = .reserved ∧ ((status base 0x18).effAddr 0 0).toNat % 8 = 0 := by decide

/-- A device, for the widest and the narrowest access. -/
theorem test_witness_DeviceAccessesComplete :
    let s := { base with memMap := [everywhere] }
    segmentAllows s.mode (s.effAddr 0 0) = true ∧ (s.effAddr 0 0).toNat % 8 = 0 ∧
      accessClass s.memMap .load (s.effAddr 0 0) 16 = .device ∧ accessClass s.memMap .store (s.effAddr 0 0xFFFF) 1 = .device := by decide

/-- A SYSCALL and a BREAK about to run, and the answers of the default environment. -/
theorem test_witness_SyscallAndBreakRaise :
    nextInstr (launch 0x0000000C).state = some (.syscall 0, (launch 0x0000000C).state) ∧
    nextInstr (launch 0x03FFFFCD).state = some (.breakI 0xFFFFF, (launch 0x03FFFFCD).state) ∧
    SyscallEnv.default.Allows defaultAnswers :=
  ⟨rfl, rfl, (SyscallEnv.allows_default _).mpr rfl⟩

/-- Each comparison true and false, at equal operands and at operands whose order differs signed and unsigned. -/
theorem test_witness_ConditionalTrapsRaiseWhenTrue :
    let s := regs base [(9, 0xFFFFFFFFFFFFFFFF)]
    (s.readD 9).toInt < (s.readD 0).toInt ∧ (s.readD 9).toNat > (s.readD 0).toNat ∧ (s.readD 0).toInt = (0#16).toInt ∧
    ((s.readD 9).toNat : Int) = (0xFFFF#16).toInt % 2 ^ 64 := by decide

/-- Usable, inside and outside a delay slot, with ERL 1 and 0. -/
theorem test_witness_EretReturns :
    let s := status base 0x00400006
    let u := status base 0x00400002
    s.cop0Usable = true ∧ s.bd = false ∧ s.statusBit 2 = true ∧ u.cop0Usable = true ∧ u.statusBit 2 = false ∧
    { s with bd := true }.cop0Usable = true := by decide

theorem test_witness_EretUndoesExceptionEntry :
    user.statusBit 1 = false ∧ user.statusBit 2 = false ∧ user.bd = false := by decide

/-- Each of the four grounds alone, and none. -/
theorem test_witness_EiDiSwitchEieWhereAllowed :
    let allowed := fun s : State =>
      s.statusBit 17 || s.statusBit 1 || s.statusBit 2 || (s.cop0.status.extractLsb' 3 2 == 0)
    allowed (status base 0x00020010) = true ∧ allowed (status base 0x00000012) = true ∧
    allowed (status base 0x00000014) = true ∧ allowed (status base 0x00000000) = true ∧
    allowed (status base 0x00000010) = false ∧ allowed (status base 0x00000008) = false := by decide

theorem test_witness_Mfc0ReadsEachRegister : base.cop0Usable = true ∧ (status base 0x10000010).cop0Usable = true := by decide

/-- A Status value with KSU = 11 and one with KSU = 10. -/
theorem test_witness_Mtc0WritesEachRegister :
    let s := regs base [(8, 0x18), (9, 0xFFFFFFF7)]
    s.cop0Usable = true ∧ (s.readW 8).extractLsb' 3 2 = 3 ∧ (s.readW 9).extractLsb' 3 2 = 2 := by decide

theorem test_witness_CoprocessorBranchesTransfer :
    base.bd = false ∧ base.cop1Usable = true ∧ base.cop0Usable = true ∧
    { base with fcr31 := 0x01800001 }.fcr31.getLsbD 23 = true ∧ base.fcr31.getLsbD 23 = false := by decide

/-- Values that arm and do not arm; counting and not; selectors at the ends. -/
theorem test_witness_DebugAndPerformanceMovesCopy :
    let s := regs base [(8, 0x20000000), (9, 0x1FFFFFFF), (10, 0x80000000)]
    s.cop0Usable = true ∧ (s.readW 8).getLsbD 29 = true ∧ (s.readW 9).getLsbD 29 = false ∧ (s.readW 9).getLsbD 30 = false ∧
    (s.readW 9).getLsbD 31 = false ∧ (s.readW 10).getLsbD 31 = true ∧
    { s with perf := { s.perf with pccr := 0x80000000 } }.perf.pccr.getLsbD 31 = true ∧ s.perf.pccr.getLsbD 31 = false ∧
    2 ≤ (2 : BitVec 5).toNat ∧ 2 ≤ (31 : BitVec 5).toNat ∧ (1 : BitVec 5) ≠ 0 := by decide

theorem test_witness_Cop0InstructionsNeedCop0 : user.mode ≠ .kernel ∧ user.statusBit 28 = false := by decide

theorem test_witness_FloatingPointInstructionsNeedCop1 :
    user.statusBit 29 = false ∧ State.reset.statusBit 29 = false ∧ State.reset.mode = .kernel := by decide

/-- Usable, in user mode too; reserved control register numbers. -/
theorem test_witness_FloatingPointMovesCopy :
    base.cop1Usable = true ∧ (status base 0x20000010).cop1Usable = true ∧ (1 : Reg) ≠ 0 ∧ (30 : Reg) ≠ 31 := by decide

theorem test_witness_FloatingPointArithmeticWritesItsFlags : base.cop1Usable = true := by decide

/-- The smallest and the largest normal numbers. -/
theorem test_witness_FloatingPointComparesWriteC :
    let normal (v : Word) := 1 ≤ (v.toNat / 2 ^ 23) % 256 ∧ (v.toNat / 2 ^ 23) % 256 ≤ 254
    base.cop1Usable = true ∧ normal 0x00800000 ∧ normal 0xFF7FFFFF ∧ ¬ normal 0x007FFFFF ∧ ¬ normal 0x7F800000 := by decide

/-- Aligned; misaligned; forbidden; the reserved mode; nothing there, with BEM 0 and 1; a device. -/
theorem test_witness_FloatingPointLoadsAndStores :
    let s := regs base [(4, 0xFFFFFFFC)]
    let u := regs (status base 0x20000010) [(4, 0x80000000)]
    let gone := { s with memMap := [hole 0xFFFFFFFC 4] }
    s.cop1Usable = true ∧ (s.effAddr 4 0).toNat % 4 = 0 ∧ segmentAllows s.mode (s.effAddr 4 0) = true ∧
    Memory.wf s.mem = true ∧ accessClass s.memMap .store (s.effAddr 4 0) 4 = .ram ∧ (s.effAddr 4 0xFFFF).toNat % 4 ≠ 0 ∧
    u.cop1Usable = true ∧ u.mode ≠ .reserved ∧ (u.effAddr 4 0).toNat % 4 = 0 ∧ segmentAllows u.mode (u.effAddr 4 0) = false ∧
    (status s 0x20000018).cop1Usable = true ∧ (status s 0x20000018).mode = .reserved ∧
    (gone.cop1Usable = true ∧ accessClass gone.memMap .load (gone.effAddr 4 0) 4 = .absent ∧ gone.statusBit 12 = false) ∧
    ((status gone 0x70401000).cop1Usable = true ∧ (status gone 0x70401000).statusBit 12 = true) ∧
    accessClass [everywhere] .store (s.effAddr 4 0) 4 = .device := by
  decide

/-- The three cases of a lane of PDIVW, the two of PDIVUW and of PDIVBW. -/
theorem test_witness_ParallelDivides :
    let s := regs base [(9, 0x00000000000000020000000080000000), (10, 0x000000000000000000000000FFFFFFFF)]
    (lane 32 (s.readQ 10) 2).toInt = 0 ∧ ((lane 32 (s.readQ 9) 0).toInt = -2 ^ 31 ∧ (lane 32 (s.readQ 10) 0).toInt = -1) ∧
    ((lane 32 (s.readQ 9) 2).toInt = 2 ∧ (lane 32 (s.readQ 9) 0).toInt ≠ 0) ∧
    (lane 16 (s.readQ 0) 0).toInt = 0 ∧ (lane 16 (s.readQ 10) 0).toInt = -1 := by decide

/-- An image of SA in a register, the register not being register 0. -/
theorem test_witness_ShiftAmountIsSavedAndRestored (k : BitVec 4) :
    (base.writeD 8 (saImage k)).readD 8 = saImage k ∧ (8 : Reg) ≠ 0 := by
  refine ⟨?_, by decide⟩
  rw [readD_writeD, if_pos rfl, if_neg (by decide)]

/-- A value that is no image of SA: sixteen values cannot have more than sixteen images. -/
theorem test_witness_ShiftAmountIsSavedAndRestored_foreign (f : BitVec 4 → Dword) : ∃ v : Dword, ∀ k, v ≠ f k := by
  by_contra h
  push Not at h
  choose g hg using fun n : Fin 17 => h (BitVec.ofNat 64 n.val)
  have hinj : Function.Injective fun n => (g n).toFin := by
    intro a b hab
    have e : g a = g b := BitVec.eq_of_toFin_eq hab
    have := (hg a).trans ((congrArg f e).trans (hg b).symm)
    have := congrArg BitVec.toNat this
    simp only [BitVec.toNat_ofNat] at this
    exact Fin.ext (by omega)
  have := Fintype.card_le_of_injective _ hinj
  simp at this

end Sys2Proof.Tests
end

section
/-! The state after reset (10_state.md R54). Its mode and its interrupts follow from ERL, bit 2 of Status, alone. -/

namespace Sys2Proof.Machine

/-! ## What ERL = 1 decides -/

/-- 60_exceptions.md R560: a level-2 handler runs in kernel mode, whatever KSU holds. -/
theorem mode_eq_kernel_of_erl {s : State} (erl : s.statusBit 2 = true) : s.mode = .kernel := by
  unfold State.mode
  rw [erl, Bool.or_true, if_pos rfl]

/-- 60_exceptions.md R547: no interrupt is taken in a level-2 handler, whatever lines are raised and enabled. -/
theorem interruptPending_eq_false_of_erl {s : State} (erl : s.statusBit 2 = true) : s.interruptPending = false := by
  unfold State.interruptPending
  rw [erl, Bool.not_true, Bool.and_false, Bool.false_and]

/-! ## The registers after reset -/

theorem statusBit_reset (k : Nat) : State.reset.statusBit k = resetStatus.getLsbD k := rfl
theorem cause_reset : State.reset.cop0.cause = 0 := rfl
theorem config_reset : State.reset.cop0.config = 0 := rfl
theorem bpc_reset : State.reset.dbg.bpc = 0 := rfl
theorem pccr_reset : State.reset.perf.pccr = 0 := rfl

/-- ERL is set. -/
theorem statusBit_two_reset : State.reset.statusBit 2 = true := by rw [statusBit_reset]; decide

/-- BEV is set. -/
theorem statusBit_twentyTwo_reset : State.reset.statusBit 22 = true := by rw [statusBit_reset]; decide

/-- BEM is clear. -/
theorem statusBit_twelve_reset : State.reset.statusBit 12 = false := by rw [statusBit_reset]; decide

/-- The bits of FCR31 that are no flags have their fixed values. -/
theorem fcr31_fixed_reset : State.reset.fcr31 &&& ~~~0x0083C078 = 0x01000001 := by decide

/-- Settles O1: each register from its value at reset, the mode and the interrupts from ERL. -/
theorem resetSetsTheStatedValues : Obligations.ResetSetsTheStatedValues := by
  unfold Obligations.ResetSetsTheStatedValues
  have exc2 : State.reset.cop0.cause.extractLsb' 16 3 = 0 := by rw [cause_reset]; rfl
  have config (k : Nat) : State.reset.cop0.config.getLsbD k = false := by rw [config_reset]; exact BitVec.getLsbD_zero
  have bpc (k : Nat) : State.reset.dbg.bpc.getLsbD k = false := by rw [bpc_reset]; exact BitVec.getLsbD_zero
  have pccr : State.reset.perf.pccr.getLsbD 31 = false := by rw [pccr_reset]; exact BitVec.getLsbD_zero
  exact ⟨readQ_zero _, rfl, rfl, rfl, fcr31_fixed_reset,
    statusBit_two_reset, statusBit_twentyTwo_reset, statusBit_twelve_reset,
    exc2, fun k _ => config k, fun k _ => bpc k, pccr,
    mode_eq_kernel_of_erl statusBit_two_reset, interruptPending_eq_false_of_erl statusBit_two_reset⟩

end Sys2Proof.Machine
end

section
/-! The level-2 events NMI, performance counter and debug (60_exceptions.md R555): one description of their trap entry, for
every event and every state. -/

namespace Sys2Proof.Machine

/-- Bit `j` of Cause after a level-2 event: EXC2 is the code of the event, BD2 the delay-slot flag. -/
theorem getLsbD_cause_takeEvent2 (e : Event2) (s : State) (j : Nat) :
    (takeEvent2 e s).cop0.cause.getLsbD j =
      if 16 ≤ j ∧ j < 19 then e.code.getLsbD (j - 16) else if j = 30 then s.bd else s.cop0.cause.getLsbD j :=
  (getLsbD_putField _ _ _ _ (by decide)).trans (by rw [getLsbD_setBit _ _ _ _ (by decide)])

theorem exc2_takeEvent2 (e : Event2) (s : State) : (takeEvent2 e s).cop0.cause.extractLsb' 16 3 = e.code := by
  apply BitVec.eq_of_getLsbD_eq
  intro j hj
  have hfield : 16 ≤ 16 + j ∧ 16 + j < 19 := by omega
  simp only [BitVec.getLsbD_extractLsb', hj, decide_true, Bool.true_and, getLsbD_cause_takeEvent2, if_pos hfield,
    Nat.add_sub_cancel_left]

/-- ERL is set by every level-2 event, BEV by NMI alone. -/
theorem statusBit_takeEvent2 (e : Event2) (s : State) (k : Nat) :
    (takeEvent2 e s).statusBit k = (k == 2 || (decide (e = .nmi) && k == 22) || s.statusBit k) := by
  have erl : (setBit s.cop0.status 2 true).getLsbD k = (k == 2 || s.statusBit k) := by
    rw [getLsbD_setBit _ _ _ _ (by decide)]
    by_cases h : k = 2 <;> simp [h, State.statusBit]
  cases e with
  | nmi =>
    have bev : (takeEvent2 .nmi s).statusBit k = if k = 22 then true else (setBit s.cop0.status 2 true).getLsbD k :=
      getLsbD_setBit _ _ _ _ (by decide)
    rw [bev, erl]
    by_cases h : k = 22
    · simp [h]
    · simp [h, beq_eq_false_iff_ne.mpr h]
  | performanceCounter | debug => exact erl.trans (by simp)

theorem frame_takeEvent2 (e : Event2) (s : State) : Frame s (takeEvent2 e s) (· ∈ [.status, .cause, .errorEpc]) := by
  refine ⟨fun v hv => ?_, rfl, rfl⟩
  cases v with
  | status | cause | errorEpc => simp at hv
  | _ => rfl

/-- The whole of level-2 trap entry (60_exceptions.md R555). -/
theorem takeEvent2_enters (e : Event2) (s : State) :
    EntersLevel2 s (takeEvent2 e s) e.code.toNat (e.vector s.cop0.status) (decide (e = .nmi)) where
  pc := rfl
  npc := rfl
  bd := rfl
  errorEpc := rfl
  exc2 := congrArg BitVec.toNat (exc2_takeEvent2 e s)
  delaySlot := getLsbD_cause_takeEvent2 e s 30
  causeRest k hexc2 hbd2 := by rw [getLsbD_cause_takeEvent2, if_neg (by omega), if_neg hbd2]
  status := statusBit_takeEvent2 e s
  frame := frame_takeEvent2 e s

/-- Settles O12: the trap entry of each of the three events, its code and its vector computed. -/
theorem levelTwoEventsSaveIntoErrorEpc : Obligations.LevelTwoEventsSaveIntoErrorEpc := by
  unfold Obligations.LevelTwoEventsSaveIntoErrorEpc
  intro s
  exact ⟨takeEvent2_enters .nmi s, takeEvent2_enters .performanceCounter s, takeEvent2_enters .debug s⟩

end Sys2Proof.Machine
end

section
/-! The interrupt (60_exceptions.md R546, R547, R553): when it is pending in terms of the inputs, that it is the only event
left when no counter counts and no breakpoint is armed (R576), and the trap entry it makes. -/

namespace Sys2Proof.Machine

/-! ## What sampling makes of the interrupt's sources -/

theorem statusBit_sample (s : State) (k : Nat) : s.sample.statusBit k = s.statusBit k := rfl

/-- 60_exceptions.md R565: a match of the timer sets IP[7], which stays set. -/
theorem timerPending_sample (s : State) :
    s.sample.cop0.cause.getLsbD 15 = (s.tick.timerMatch || s.cop0.cause.getLsbD 15) := by
  show (if s.tick.timerMatch then setBit s.cop0.cause 15 true else s.cop0.cause).getLsbD 15 = _
  cases s.tick.timerMatch with
  | false => rfl
  | true => rw [if_pos rfl, getLsbD_setBit _ _ _ _ (by decide), if_pos rfl, Bool.true_or]

/-- 60_exceptions.md R547, read off the state before the step and what its inputs do. -/
theorem interruptPending_sample_iff (s : State) :
    s.sample.interruptPending = true ↔
      s.statusBit 0 = true ∧ s.statusBit 16 = true ∧ s.statusBit 1 = false ∧ s.statusBit 2 = false ∧
        ((s.tick.int0 = true ∧ s.statusBit 10 = true) ∨ (s.tick.int1 = true ∧ s.statusBit 11 = true) ∨
          ((s.tick.timerMatch = true ∨ s.cop0.cause.getLsbD 15 = true) ∧ s.statusBit 15 = true)) := by
  simp only [State.interruptPending, statusBit_sample, sample_int0, sample_int1, timerPending_sample, Bool.and_eq_true,
    Bool.or_eq_true, Bool.not_eq_true', and_assoc, or_assoc]

/-! ## No counter counts and no breakpoint is armed -/

/-- With IAE, DRE and DWE (bits 31 to 29 of BPC) clear no match counts. -/
theorem enabledHits_eq_zero_of_unarmed {bpc : Word} (unarmed : ∀ k ∈ [29, 30, 31], bpc.getLsbD k = false) (hit : BitVec 3) :
    enabledHits bpc hit = 0 := by
  unfold enabledHits
  rw [unarmed 29 (by simp), unarmed 30 (by simp), unarmed 31 (by simp)]
  exact BitVec.and_zero

theorem debugRaises_zero (bpc : Word) : debugRaises bpc 0 = false := by simp [debugRaises]

/-- With no breakpoint armed sampling records no match. -/
theorem bpc_sample_of_unarmed {s : State} (unarmed : ∀ k ∈ [29, 30, 31], s.dbg.bpc.getLsbD k = false) :
    s.sample.dbg.bpc = s.dbg.bpc := by
  show s.dbg.bpc ||| (enabledHits s.dbg.bpc s.tick.debugHit).setWidth 32 = s.dbg.bpc
  rw [enabledHits_eq_zero_of_unarmed unarmed]
  exact BitVec.or_zero

/-- 60_exceptions.md R551 under the premises of R576: what is left of the events is the interrupt. -/
theorem eventTaken_eq_interrupt {s : State} (noReset : s.tick.reset = false) (noNmi : s.tick.nmi = false)
    (stopped : s.perf.pccr.getLsbD 31 = false) (unarmed : ∀ k ∈ [29, 30, 31], s.dbg.bpc.getLsbD k = false) :
    eventTaken s.tick s.sample =
      if s.sample.interruptPending then some (takeException .interrupt s.sample) else none := by
  have noMatch : debugRaises s.sample.dbg.bpc (enabledHits s.sample.dbg.bpc s.tick.debugHit) = false := by
    rw [bpc_sample_of_unarmed unarmed, enabledHits_eq_zero_of_unarmed unarmed, debugRaises_zero]
  simp only [eventTaken, noReset, noNmi, sample_perf, stopped, noMatch, Bool.and_false, Bool.false_and, Bool.false_eq_true,
    if_false]

/-! ## A step -/

theorem step_of_event {s t : State} (h : eventTaken s.tick s.sample = some t) : step s = .next t := by
  unfold step
  rw [h]

theorem step_of_no_event {s : State} (h : eventTaken s.tick s.sample = none) : step s = runInstruction s.sample := by
  unfold step
  rw [h]

/-! ## The trap entry of an interrupt -/

/-- 60_exceptions.md R554: outside a level-1 handler control goes to offset 0x200 of the base that BEV selects. -/
theorem takeInterrupt_pc {s : State} (exl : s.statusBit 1 = false) :
    (takeException .interrupt s).pc = if s.statusBit 22 then 0xBFC00400 else 0x80000200 := by
  rw [(takeException_enters .interrupt s).pc, exl]
  cases s.statusBit 22 <;> rfl

/-- Outside a level-1 handler EPC is the instruction that did not run, or the branch before it. -/
theorem takeInterrupt_epc {s : State} (exl : s.statusBit 1 = false) :
    (takeException .interrupt s).cop0.epc = if s.bd then s.pc - 4 else s.pc := by
  rw [(takeException_enters .interrupt s).epc, exl]
  rfl

/-- Settles O11: the interrupt is the only event left, it is taken when it is pending, and its entry is that of any level-1
exception with EXL = 0. -/
theorem interruptIsTakenWhenEnabled : Obligations.InterruptIsTakenWhenEnabled := by
  unfold Obligations.InterruptIsTakenWhenEnabled
  intro s noReset noNmi stopped unarmed u enabled
  have event := eventTaken_eq_interrupt noReset noNmi stopped unarmed
  have pending : u.interruptPending = true ↔ enabled := interruptPending_sample_iff s
  constructor
  · intro on
    rw [if_pos (pending.mpr on)] at event
    obtain ⟨-, -, exl, -, -⟩ := on
    exact ⟨takeException .interrupt u, step_of_event event, takeException_enters .interrupt u, takeInterrupt_pc exl,
      takeInterrupt_epc exl⟩
  · intro off
    rw [if_neg (mt pending.mp off)] at event
    exact step_of_no_event event

end Sys2Proof.Machine
end

section
/-! Decoding inverts encoding (30_encoding.md R100 to R107): the opcode, and where there is one the sub-opcode, of a word
leads to one table of the decoder, and there the encoder's fields are read back. -/

namespace Sys2Proof

/-! ## From the opcode to the table that decodes a word -/

theorem decode_special {w : Word} (h : opOf w = 0b000000#6) : decode w = decodeSpecial w := by rw [decode, h]; rfl
theorem decode_regimm {w : Word} (h : opOf w = 0b000001#6) : decode w = decodeRegimm w := by rw [decode, h]; rfl
theorem decode_cop0 {w : Word} (h : opOf w = 0b010000#6) : decode w = decodeCop0 w := by rw [decode, h]; rfl
theorem decode_cop1 {w : Word} (h : opOf w = 0b010001#6) : decode w = decodeCop1 w := by rw [decode, h]; rfl
theorem decode_mmi {w : Word} (h : opOf w = 0b011100#6) : decode w = decodeMmi w := by rw [decode, h]; rfl

/-! The tables of MMI, by function. -/

theorem decode_mmi0 {w : Word} (h : opOf w = 0b011100#6) (hf : fnOf w = 0b001000#6) : decode w = decodeMmi0 w := by
  rw [decode_mmi h, decodeMmi, hf]; rfl
theorem decode_mmi1 {w : Word} (h : opOf w = 0b011100#6) (hf : fnOf w = 0b101000#6) : decode w = decodeMmi1 w := by
  rw [decode_mmi h, decodeMmi, hf]; rfl
theorem decode_mmi2 {w : Word} (h : opOf w = 0b011100#6) (hf : fnOf w = 0b001001#6) : decode w = decodeMmi2 w := by
  rw [decode_mmi h, decodeMmi, hf]; rfl
theorem decode_mmi3 {w : Word} (h : opOf w = 0b011100#6) (hf : fnOf w = 0b101001#6) : decode w = decodeMmi3 w := by
  rw [decode_mmi h, decodeMmi, hf]; rfl
theorem decode_pmfhl {w : Word} (h : opOf w = 0b011100#6) (hf : fnOf w = 0b110000#6) : decode w = decodePmfhl w := by
  rw [decode_mmi h, decodeMmi, hf]; rfl

/-! The tables of the coprocessors, by sub-opcode. -/

theorem decode_cop0From {w : Word} (h : opOf w = 0b010000#6) (hs : rsOf w = 0b00000#5) : decode w = decodeCop0From w := by
  rw [decode_cop0 h, decodeCop0, hs]; rfl
theorem decode_cop0To {w : Word} (h : opOf w = 0b010000#6) (hs : rsOf w = 0b00100#5) : decode w = decodeCop0To w := by
  rw [decode_cop0 h, decodeCop0, hs]; rfl
theorem decode_c0op {w : Word} (h : opOf w = 0b010000#6) (hs : rsOf w = 0b10000#5) : decode w = decodeC0op w := by
  rw [decode_cop0 h, decodeCop0, hs]; rfl
theorem decode_debugFrom {w : Word} (h : opOf w = 0b010000#6) (hs : rsOf w = 0b00000#5) (hd : rdOf w = 0b11000#5) :
    decode w = decodeDebugFrom w := by
  rw [decode_cop0From h hs, decodeCop0From, hd]; rfl
theorem decode_debugTo {w : Word} (h : opOf w = 0b010000#6) (hs : rsOf w = 0b00100#5) (hd : rdOf w = 0b11000#5) :
    decode w = decodeDebugTo w := by
  rw [decode_cop0To h hs, decodeCop0To, hd]; rfl
theorem decode_fmtS {w : Word} (h : opOf w = 0b010001#6) (hs : rsOf w = 0b10000#5) : decode w = decodeFmtS w := by
  rw [decode_cop1 h, decodeCop1, hs]; rfl

/-! ## MFC0 and MTC0: every register number but 24 and 25, whose words are other instructions -/

theorem ne_of_cop0RegOk {rd : Reg} (h : cop0RegOk rd = true) : rd ≠ 24 ∧ rd ≠ 25 := by
  simpa [cop0RegOk] using h

theorem decodeCop0From_mfc0 (rt rd : Reg) (h : rd ≠ 24 ∧ rd ≠ 25) :
    decodeCop0From (mkR 0b010000#6 0b00000#5 rt rd 0b00000#5 0b000000#6) = .ok (.mfc0 rt rd) := by
  unfold decodeCop0From
  split
  · rename_i h24; exact absurd ((rdOf_mkR ..).symm.trans h24) h.1
  · rename_i h25; exact absurd ((rdOf_mkR ..).symm.trans h25) h.2
  · simp [strict]

theorem decodeCop0To_mtc0 (rt rd : Reg) (h : rd ≠ 24 ∧ rd ≠ 25) :
    decodeCop0To (mkR 0b010000#6 0b00100#5 rt rd 0b00000#5 0b000000#6) = .ok (.mtc0 rt rd) := by
  unfold decodeCop0To
  split
  · rename_i h24; exact absurd ((rdOf_mkR ..).symm.trans h24) h.1
  · rename_i h25; exact absurd ((rdOf_mkR ..).symm.trans h25) h.2
  · simp [strict]

/-! ## Every instruction -/

/-- Grouped by the table that decodes the word; in each table first the instructions whose pattern has fields that must be
0 (`strict`), then those without. -/
theorem decode_encode (i : Instr) (h : i.wellFormed = true) : decode (encode i) = .ok i := by
  cases i with
  | add | mult | addu | subu | mfhi | mflo | jr | div | and | sub | or | xor | nor | slt | sltu | movn | movz | dadd |
    daddu | dsub | dsubu | sll | srl | sra | sllv | srlv | srav | dsll | dsrl | dsra | dsll32 | dsrl32 | dsra32 |
    dsllv | dsrlv | dsrav | multu | divu | mthi | mtlo | jalr | sync | mfsa | mtsa =>
    show decode (mkR ..) = _
    rw [decode_special (opOf_mkR ..), decodeSpecial, fnOf_mkR]
    show strict _ _ = _
    simp [strict]
  | syscall | breakI =>
    show decode (mkCode ..) = _
    rw [decode_special (opOf_mkCode ..), decodeSpecial, fnOf_mkCode]
    show Except.ok _ = _
    simp only [codeOf_mkCode]
  | tge | tgeu | tlt | tltu | teq | tne =>
    show decode (mkTrap ..) = _
    rw [decode_special (opOf_mkTrap ..), decodeSpecial, fnOf_mkTrap]
    show Except.ok _ = _
    simp only [rsOf_mkTrap, rtOf_mkTrap, trapCodeOf_mkTrap]
  | bltzal | bgezal | bgez | bgezl | bgezall | bltz | bltzl | bltzall | tgei | tgeiu | tlti | tltiu | teqi | tnei |
    mtsab | mtsah =>
    show decode (mkI ..) = _
    rw [decode_regimm (opOf_mkI ..), decodeRegimm, rtOf_mkI]
    show Except.ok _ = _
    simp only [rsOf_mkI, immOf_mkI]
  | mult1 | multu1 | div1 | divu1 | madd | maddu | madd1 | maddu1 | mfhi1 | mflo1 | mthi1 | mtlo1 | psllh | psrlh |
    psrah | psllw | psrlw | psraw | pmthlLw | plzcw =>
    show decode (mkR ..) = _
    rw [decode_mmi (opOf_mkR ..), decodeMmi, fnOf_mkR]
    show strict _ _ = _
    simp [strict]
  | pext5 | ppac5 =>
    show decode (mkR ..) = _
    rw [decode_mmi0 (opOf_mkR ..) (fnOf_mkR ..), decodeMmi0, saOf_mkR]
    show strict _ _ = _
    simp [strict]
  | paddb | paddh | paddw | paddsb | paddsh | paddsw | psubb | psubh | psubw | psubsb | psubsh | psubsw | pmaxh |
    pmaxw | pcgtb | pcgth | pcgtw | pextlb | pextlh | pextlw | ppacb | ppach | ppacw =>
    show decode (mkR ..) = _
    rw [decode_mmi0 (opOf_mkR ..) (fnOf_mkR ..), decodeMmi0, saOf_mkR]
    show Except.ok _ = _
    simp only [rsOf_mkR, rtOf_mkR, rdOf_mkR]
  | pabsh | pabsw =>
    show decode (mkR ..) = _
    rw [decode_mmi1 (opOf_mkR ..) (fnOf_mkR ..), decodeMmi1, saOf_mkR]
    show strict _ _ = _
    simp [strict]
  | paddub | padduh | padduw | psubub | psubuh | psubuw | padsbh | pminh | pminw | pceqb | pceqh | pceqw | pextub |
    pextuh | pextuw | qfsrv =>
    show decode (mkR ..) = _
    rw [decode_mmi1 (opOf_mkR ..) (fnOf_mkR ..), decodeMmi1, saOf_mkR]
    show Except.ok _ = _
    simp only [rsOf_mkR, rtOf_mkR, rdOf_mkR]
  | pdivw | pdivbw | pmfhi | pmflo | pexeh | pexew | prevh | prot3w =>
    show decode (mkR ..) = _
    rw [decode_mmi2 (opOf_mkR ..) (fnOf_mkR ..), decodeMmi2, saOf_mkR]
    show strict _ _ = _
    simp [strict]
  | pand | pxor | psllvw | psrlvw | pmultw | pmaddw | pmsubw | pmulth | pmaddh | pmsubh | phmadh | phmsbh | pcpyld |
    pinth =>
    show decode (mkR ..) = _
    rw [decode_mmi2 (opOf_mkR ..) (fnOf_mkR ..), decodeMmi2, saOf_mkR]
    show Except.ok _ = _
    simp only [rsOf_mkR, rtOf_mkR, rdOf_mkR]
  | pdivuw | pmthi | pmtlo | pcpyh | pexch | pexcw =>
    show decode (mkR ..) = _
    rw [decode_mmi3 (opOf_mkR ..) (fnOf_mkR ..), decodeMmi3, saOf_mkR]
    show strict _ _ = _
    simp [strict]
  | pnor | psravw | pmultuw | pmadduw | pcpyud | pinteh =>
    show decode (mkR ..) = _
    rw [decode_mmi3 (opOf_mkR ..) (fnOf_mkR ..), decodeMmi3, saOf_mkR]
    show Except.ok _ = _
    simp only [rsOf_mkR, rtOf_mkR, rdOf_mkR]
  | pmfhlLh | pmfhlLw | pmfhlSh | pmfhlSlw | pmfhlUw =>
    show decode (mkR ..) = _
    rw [decode_pmfhl (opOf_mkR ..) (fnOf_mkR ..), decodePmfhl, saOf_mkR]
    show strict _ _ = _
    simp [strict]
  | mfc0 rt rd =>
    show decode (mkR ..) = _
    rw [decode_cop0From (opOf_mkR ..) (rsOf_mkR ..)]
    exact decodeCop0From_mfc0 rt rd (ne_of_cop0RegOk h)
  | mtc0 rt rd =>
    show decode (mkR ..) = _
    rw [decode_cop0To (opOf_mkR ..) (rsOf_mkR ..)]
    exact decodeCop0To_mtc0 rt rd (ne_of_cop0RegOk h)
  | mfbpc | mfiab | mfiabm | mfdab | mfdabm | mfdvb | mfdvbm =>
    show decode (mkR ..) = _
    rw [decode_debugFrom (opOf_mkR ..) (rsOf_mkR ..) (rdOf_mkR ..), decodeDebugFrom, fnOf_mkR]
    show strict _ _ = _
    simp [strict]
  | mtbpc | mtiab | mtdab | mtdabm | mtdvb | mtdvbm =>
    show decode (mkR ..) = _
    rw [decode_debugTo (opOf_mkR ..) (rsOf_mkR ..) (rdOf_mkR ..), decodeDebugTo, fnOf_mkR]
    show strict _ _ = _
    simp [strict]
  | mfpc | mfps =>
    show decode (mkPerf ..) = _
    rw [decode_cop0From (opOf_mkPerf ..) (rsOf_mkPerf ..), decodeCop0From, rdOf_mkPerf, fnOf_mkPerf_zero]
    show strict _ _ = _
    simp [strict]
  | mtpc | mtps =>
    show decode (mkPerf ..) = _
    rw [decode_cop0To (opOf_mkPerf ..) (rsOf_mkPerf ..), decodeCop0To, rdOf_mkPerf, fnOf_mkPerf_zero]
    show strict _ _ = _
    simp [strict]
  | bc0f | bc0fl | bc0t | bc0tl =>
    show decode (mkI ..) = _
    rw [decode_cop0 (opOf_mkI ..), decodeCop0, rsOf_mkI, decodeBc0, rtOf_mkI]
    show Except.ok _ = _
    simp only [immOf_mkI]
  | eret | ei | di =>
    show decode (mkR ..) = _
    rw [decode_cop0 (opOf_mkR ..), decodeCop0, rsOf_mkR, decodeC0op, fnOf_mkR]
    show strict _ _ = _
    simp [strict]
  | mfc1 | mtc1 | cfc1 | ctc1 =>
    show decode (mkR ..) = _
    rw [decode_cop1 (opOf_mkR ..), decodeCop1, rsOf_mkR]
    show strict _ _ = _
    simp [strict]
  | bc1f | bc1fl | bc1t | bc1tl =>
    show decode (mkI ..) = _
    rw [decode_cop1 (opOf_mkI ..), decodeCop1, rsOf_mkI, decodeBc1, rtOf_mkI]
    show Except.ok _ = _
    simp only [immOf_mkI]
  | movS | absS | negS | cFS | cEqS | cLtS | cLeS | sqrtS | mulaS | subaS | maddaS | msubaS | cvtWS =>
    show decode (mkR ..) = _
    rw [decode_fmtS (opOf_mkR ..) (rsOf_mkR ..), decodeFmtS, fnOf_mkR]
    show strict _ _ = _
    simp [strict]
  | addS | subS | mulS | divS | rsqrtS | maxS | minS | maddS | msubS =>
    show decode (mkR ..) = _
    rw [decode_fmtS (opOf_mkR ..) (rsOf_mkR ..), decodeFmtS, fnOf_mkR]
    show Except.ok _ = _
    simp only [rtOf_mkR, rdOf_mkR, saOf_mkR]
  | cvtSW =>
    show decode (mkR ..) = _
    rw [decode_cop1 (opOf_mkR ..), decodeCop1, rsOf_mkR, decodeFmtW, fnOf_mkR]
    show strict _ _ = _
    simp [strict]
  | jal | j =>
    show decode (mkJ ..) = _
    rw [decode, opOf_mkJ]
    show Except.ok _ = _
    simp only [indexOf_mkJ]
  | blez | lui | bgtz | bgtzl | blezl =>
    show decode (mkI ..) = _
    rw [decode, opOf_mkI]
    show strict _ _ = _
    simp [strict]
  | lb | beq | bne | sw | lw | addi | addiu | andi | ori | xori | slti | sltiu | daddi | daddiu | beql | bnel | lbu |
    lh | lhu | lwu | ld | lq | lwl | lwr | ldl | ldr | sb | sh | sd | sq | swl | swr | sdl | sdr | pref | lwc1 |
    swc1 =>
    show decode (mkI ..) = _
    rw [decode, opOf_mkI]
    show Except.ok _ = _
    simp only [rsOf_mkI, rtOf_mkI, immOf_mkI]

/-! ## Through memory -/

/-- The bytes of a word, least significant first, put together again. -/
theorem wordOfBytes_bytes (w : Word) :
    wordOfBytes (w.extractLsb' 0 8) (w.extractLsb' 8 8) (w.extractLsb' 16 8) (w.extractLsb' 24 8) = w := by
  unfold wordOfBytes
  rw [BitVec.extractLsb'_append_extractLsb'_eq_extractLsb' (show 24 = 16 + 8 from rfl),
    BitVec.extractLsb'_append_extractLsb'_eq_extractLsb' (show 16 = 8 + 8 from rfl),
    BitVec.extractLsb'_append_extractLsb'_eq_extractLsb' (show 8 = 0 + 8 from rfl)]
  exact BitVec.extractLsb'_eq_self

theorem decodeBytes_encodeBytes (i : Instr) (rest : List Byte) (h : i.wellFormed = true) :
    decodeBytes (encodeBytes i ++ rest) = .ok (i, rest) := by
  simp only [encodeBytes, bytesOfWord, List.cons_append, List.nil_append, decodeBytes, wordOfBytes_bytes,
    decode_encode i h]

/-- Settles O5: each well-formed instruction through the table of its opcode, and its bytes through its word. -/
theorem decodeInvertsEncode : Obligations.DecodeInvertsEncode := by
  unfold Obligations.DecodeInvertsEncode
  intro i rest h
  exact ⟨decode_encode i h, decodeBytes_encodeBytes i rest h⟩

end Sys2Proof
end

section
/-! The loads and stores of general registers in terms of the two shared operations `loadThen` and `storeValue`, one equation
per instruction, and what the twelve loads and the nine stores have in common. -/

namespace Sys2Proof.Machine

/-! ## The loads -/

section
variable (s : State) (base rt : Reg) (offset : BitVec 16)

theorem exec_lb : exec (.lb base rt offset) s = loadThen s (s.effAddr base offset) (s.effAddr base offset) 1 1
    fun v t => t.writeD rt ((v.setWidth 8).signExtend 64) := rfl

theorem exec_lbu : exec (.lbu base rt offset) s = loadThen s (s.effAddr base offset) (s.effAddr base offset) 1 1
    fun v t => t.writeD rt ((v.setWidth 8).setWidth 64) := rfl

theorem exec_lh : exec (.lh base rt offset) s = loadThen s (s.effAddr base offset) (s.effAddr base offset) 2 2
    fun v t => t.writeD rt ((v.setWidth 16).signExtend 64) := rfl

theorem exec_lhu : exec (.lhu base rt offset) s = loadThen s (s.effAddr base offset) (s.effAddr base offset) 2 2
    fun v t => t.writeD rt ((v.setWidth 16).setWidth 64) := rfl

theorem exec_lw : exec (.lw base rt offset) s = loadThen s (s.effAddr base offset) (s.effAddr base offset) 4 4
    fun v t => t.writeD rt ((v.setWidth 32).signExtend 64) := rfl

theorem exec_lwu : exec (.lwu base rt offset) s = loadThen s (s.effAddr base offset) (s.effAddr base offset) 4 4
    fun v t => t.writeD rt ((v.setWidth 32).setWidth 64) := rfl

theorem exec_ld : exec (.ld base rt offset) s = loadThen s (s.effAddr base offset) (s.effAddr base offset) 8 8
    fun v t => t.writeD rt (v.setWidth 64) := rfl

theorem exec_lq : exec (.lq base rt offset) s =
    loadThen s (blockOf (s.effAddr base offset) 16) (blockOf (s.effAddr base offset) 16) 16 1
      fun v t => t.writeQ rt v := by
  rw [← alignQuad_eq]; rfl

theorem exec_lwl : exec (.lwl base rt offset) s =
    loadThen s (s.effAddr base offset) (blockOf (s.effAddr base offset) 4) ((s.effAddr base offset).toNat % 4 + 1) 1
      fun v t => t.writeW rt (mergeLeftW ((s.effAddr base offset).toNat % 4 + 1) (v.setWidth 32) (t.readW rt)) := by
  rw [← alignWord_eq]; rfl

theorem exec_lwr : exec (.lwr base rt offset) s =
    loadThen s (s.effAddr base offset) (s.effAddr base offset) (4 - (s.effAddr base offset).toNat % 4) 1 fun v t =>
      if 4 - (s.effAddr base offset).toNat % 4 = 4 then t.writeW rt (v.setWidth 32)
      else t.writeD rt (joinW (highW (t.readD rt))
        (mergeRightW (4 - (s.effAddr base offset).toNat % 4) (v.setWidth 32) (t.readW rt))) := rfl

theorem exec_ldl : exec (.ldl base rt offset) s =
    loadThen s (s.effAddr base offset) (blockOf (s.effAddr base offset) 8) ((s.effAddr base offset).toNat % 8 + 1) 1
      fun v t => t.writeD rt (mergeLeftD ((s.effAddr base offset).toNat % 8 + 1) (v.setWidth 64) (t.readD rt)) := by
  rw [← alignDword_eq]; rfl

theorem exec_ldr : exec (.ldr base rt offset) s =
    loadThen s (s.effAddr base offset) (s.effAddr base offset) (8 - (s.effAddr base offset).toNat % 8) 1
      fun v t => t.writeD rt (mergeRightD (8 - (s.effAddr base offset).toNat % 8) (v.setWidth 64) (t.readD rt)) := rfl

/-! ## The stores -/

theorem exec_sb : exec (.sb base rt offset) s =
    storeValue s (s.effAddr base offset) (s.effAddr base offset) 1 1 (s.readQ rt) := rfl

theorem exec_sh : exec (.sh base rt offset) s =
    storeValue s (s.effAddr base offset) (s.effAddr base offset) 2 2 (s.readQ rt) := rfl

theorem exec_sw : exec (.sw base rt offset) s =
    storeValue s (s.effAddr base offset) (s.effAddr base offset) 4 4 (s.readQ rt) := rfl

theorem exec_sd : exec (.sd base rt offset) s =
    storeValue s (s.effAddr base offset) (s.effAddr base offset) 8 8 (s.readQ rt) := rfl

theorem exec_sq : exec (.sq base rt offset) s =
    storeValue s (blockOf (s.effAddr base offset) 16) (blockOf (s.effAddr base offset) 16) 16 1 (s.readQ rt) := by
  rw [← alignQuad_eq]; rfl

theorem exec_swl : exec (.swl base rt offset) s =
    storeValue s (s.effAddr base offset) (blockOf (s.effAddr base offset) 4) ((s.effAddr base offset).toNat % 4 + 1) 1
      ((s.readW rt >>> (8 * (4 - ((s.effAddr base offset).toNat % 4 + 1)))).setWidth 128) := by
  rw [← alignWord_eq]; rfl

theorem exec_swr : exec (.swr base rt offset) s =
    storeValue s (s.effAddr base offset) (s.effAddr base offset) (4 - (s.effAddr base offset).toNat % 4) 1
      (s.readQ rt) := rfl

theorem exec_sdl : exec (.sdl base rt offset) s =
    storeValue s (s.effAddr base offset) (blockOf (s.effAddr base offset) 8) ((s.effAddr base offset).toNat % 8 + 1) 1
      ((s.readD rt >>> (8 * (8 - ((s.effAddr base offset).toNat % 8 + 1)))).setWidth 128) := by
  rw [← alignDword_eq]; rfl

theorem exec_sdr : exec (.sdr base rt offset) s =
    storeValue s (s.effAddr base offset) (s.effAddr base offset) (8 - (s.effAddr base offset).toNat % 8) 1
      (s.readQ rt) := rfl

end

/-! ## What the loads and the stores have in common -/

/-- The instruction of `f` is a load of its bytes that writes `x[rt]`: all 128 bits where it loads 16 bytes, else bits 63:0. -/
def LoadsInto (s : State) (rt : Reg) (f : Access) : Prop :=
  ∃ k : Quad → State → State, exec f.instr s = loadThen s f.reported f.start f.bytes f.align k ∧
    ∀ v t, if f.bytes = 16 then ∃ q, k v t = t.writeQ rt q else ∃ d, k v t = t.writeD rt d

/-- The instruction of `f` is a store of its bytes. -/
def StoresAs (s : State) (f : Access) : Prop :=
  ∃ v : Quad, exec f.instr s = storeValue s f.reported f.start f.bytes f.align v

/-- A load of fewer than 16 bytes. -/
theorem loadsInto_of_writeD {s : State} {rt : Reg} {f : Access} {k : Quad → State → State}
    (h : exec f.instr s = loadThen s f.reported f.start f.bytes f.align k) (hn : f.bytes ≠ 16)
    (hk : ∀ v t, ∃ d, k v t = t.writeD rt d) : LoadsInto s rt f :=
  ⟨k, h, fun v t => by rw [if_neg hn]; exact hk v t⟩

theorem loadsInto_loadForms (s : State) (base rt : Reg) (offset : BitVec 16) :
    ∀ f ∈ loadForms base rt offset (s.effAddr base offset), LoadsInto s rt f := by
  unfold loadForms
  simp only [List.forall_mem_cons]
  refine ⟨?lb, ?lbu, ?lh, ?lhu, ?lw, ?lwu, ?ld, ?lq, ?lwl, ?lwr, ?ldl, ?ldr, nofun⟩
  case lb => exact loadsInto_of_writeD (exec_lb ..) (by simp) fun _ _ => ⟨_, rfl⟩
  case lbu => exact loadsInto_of_writeD (exec_lbu ..) (by simp) fun _ _ => ⟨_, rfl⟩
  case lh => exact loadsInto_of_writeD (exec_lh ..) (by simp) fun _ _ => ⟨_, rfl⟩
  case lhu => exact loadsInto_of_writeD (exec_lhu ..) (by simp) fun _ _ => ⟨_, rfl⟩
  case lw => exact loadsInto_of_writeD (exec_lw ..) (by simp) fun _ _ => ⟨_, rfl⟩
  case lwu => exact loadsInto_of_writeD (exec_lwu ..) (by simp) fun _ _ => ⟨_, rfl⟩
  case ld => exact loadsInto_of_writeD (exec_ld ..) (by simp) fun _ _ => ⟨_, rfl⟩
  case lq => exact ⟨_, exec_lq .., fun v t => ⟨v, rfl⟩⟩
  case lwl => exact loadsInto_of_writeD (exec_lwl ..) (by dsimp only; omega) fun _ _ => ⟨_, rfl⟩
  case lwr =>
    refine loadsInto_of_writeD (exec_lwr ..) (by dsimp only; omega) fun v t => ?_
    split
    · exact ⟨_, rfl⟩
    · exact ⟨_, rfl⟩
  case ldl => exact loadsInto_of_writeD (exec_ldl ..) (by dsimp only; omega) fun _ _ => ⟨_, rfl⟩
  case ldr => exact loadsInto_of_writeD (exec_ldr ..) (by dsimp only; omega) fun _ _ => ⟨_, rfl⟩

theorem storesAs_storeForms (s : State) (base rt : Reg) (offset : BitVec 16) :
    ∀ f ∈ storeForms base rt offset (s.effAddr base offset), StoresAs s f := by
  unfold storeForms
  simp only [List.forall_mem_cons]
  exact ⟨⟨_, exec_sb ..⟩, ⟨_, exec_sh ..⟩, ⟨_, exec_sw ..⟩, ⟨_, exec_sd ..⟩, ⟨_, exec_sq ..⟩, ⟨_, exec_swl ..⟩,
    ⟨_, exec_swr ..⟩, ⟨_, exec_sdl ..⟩, ⟨_, exec_sdr ..⟩, nofun⟩

end Sys2Proof.Machine
end

section
/-! Every step keeps the invariant: each instruction by the shared operation that makes its result, then the words that are
no instruction, the fetch and the events. -/

namespace Sys2Proof.Machine

/-! ## Choices -/

theorem inv_ite {c : Prop} [Decidable c] {s t : State} (hs : Inv s) (ht : Inv t) : Inv (if c then s else t) := by
  split
  · exact hs
  · exact ht

theorem keeps_ite {c : Prop} [Decidable c] {a b : Result} (ha : Result.Keeps a) (hb : Result.Keeps b) :
    Result.Keeps (if c then a else b) := by
  split
  · exact ha
  · exact hb

/-- A move to a register that the model may refuse. -/
theorem keeps_moved {m : Except Refusal State} :
    (∀ t, m = .ok t → Inv t) → Result.Keeps (match m with | .ok t => .next t.advance | .error r => .refused r) := by
  intro h
  cases m with
  | ok t => exact keeps_next (h t rfl).advance
  | error r => exact keeps_refused r

/-! ## Writes of single registers -/

theorem Inv.writeDebug {s : State} (h : Inv s) (d : DebugRegs) (hd : d.bpc &&& 0xE0000000 = 0) : Inv { s with dbg := d } :=
  { h with breakpoints := hd }

theorem Inv.writePerf {s : State} (h : Inv s) (p : PerfRegs) (hp : p.pccr.getLsbD 31 = false) : Inv { s with perf := p } :=
  { h with counters := hp }

/-- A write of coprocessor-0 registers other than Status, Cause and Config. -/
theorem Inv.writeSaved {s : State} (h : Inv s) (c : Cop0) (status : c.status = s.cop0.status) (cause : c.cause = s.cop0.cause)
    (config : c.config = s.cop0.config) : Inv { s with cop0 := c } :=
  { h with
    status := status ▸ h.status
    ksu := by
      show (c.status.getLsbD 4 && c.status.getLsbD 3) = false
      rw [status]; exact h.ksu
    cause := cause ▸ h.cause
    coprocessor := cause ▸ h.coprocessor
    config := config ▸ h.config }

theorem Inv.setEie {s : State} (h : Inv s) (b : Bool) : Inv (setEie s b) :=
  { h with
    status := setBit_masked _ (by decide) (by decide) h.status
    ksu := (ksu_setBit _ _ _ (by decide) (by decide) (by decide)).trans h.ksu }

/-- A write of Compare clears IP[7], which is a bit of Cause that exists. -/
theorem Inv.writeCompare {s : State} (h : Inv s) (v : Word) :
    Inv { s with cop0 := { s.cop0 with compare := v, cause := setBit s.cop0.cause 15 false } } :=
  { h with
    cause := setBit_masked _ (by decide) (by decide) h.cause
    coprocessor := (ce_setBit _ _ _ (by decide) (by decide) (by decide)).trans h.coprocessor }

theorem Inv.writeStatus {s t : State} {v : Word} (h : Inv s) (e : writeStatus s v = .ok t) : Inv t := by
  unfold Machine.writeStatus at e
  split at e
  · cases e
  · rename_i legal
    injection e with e
    subst e
    exact
      { h with
        status := by
          show v &&& statusMask &&& ~~~statusMask = 0
          rw [BitVec.and_assoc, show statusMask &&& ~~~statusMask = 0 by decide]
          exact BitVec.and_zero
        ksu := by
          show ((v &&& statusMask).getLsbD 4 && (v &&& statusMask).getLsbD 3) = false
          rw [BitVec.getLsbD_and, BitVec.getLsbD_and, show statusMask.getLsbD 4 = true by decide,
            show statusMask.getLsbD 3 = true by decide, Bool.and_true, Bool.and_true]
          exact Bool.eq_false_iff.mpr legal }

/-- MTBPC arms no breakpoint. -/
theorem Inv.writeBpc {s t : State} {v : Word} (h : Inv s) (e : writeBpc s v = .ok t) : Inv t := by
  unfold Machine.writeBpc at e
  split at e
  · rename_i unarmed
    injection e with e
    exact e ▸ h.writeDebug _ unarmed
  · cases e

/-- MTPS starts no counter. -/
theorem Inv.writePccr {s t : State} {v : Word} (h : Inv s) (e : writePccr s v = .ok t) : Inv t := by
  unfold Machine.writePccr at e
  split at e
  · cases e
  · rename_i stopped
    injection e with e
    exact e ▸ h.writePerf _ (Bool.eq_false_iff.mpr stopped)

/-- `C0write`, register number by register number. -/
theorem Inv.writeC0 {s t : State} {n : Reg} {v : Word} (h : Inv s) (e : Machine.writeCop0 s n v = .ok t) : Inv t := by
  unfold Machine.writeCop0 at e
  split at e
  case h_1 | h_2 | h_8 | h_10 | h_11 | h_12 | h_13 | h_14 | h_15 | h_16 | h_19 | h_20 | h_22 => cases e; exact h
  case h_3 | h_7 | h_21 => cases e; exact h.writeSaved _ rfl rfl rfl
  case h_4 => cases e; exact h.writeCompare v
  case h_5 => exact h.writeStatus e
  case h_17 => exact h.writeBpc e
  case h_18 => exact h.writePccr e
  case h_6 | h_9 | h_23 => cases e

/-! ## Instructions with a choice of their own -/

theorem keeps_execMtc0 {s : State} (h : Inv s) (rt rd : Reg) : Result.Keeps (execMtc0 rt rd s) :=
  keeps_withCop0 h (keeps_moved fun _ => h.writeC0)

theorem keeps_execMfc0 {s : State} (h : Inv s) (rt rd : Reg) : Result.Keeps (execMfc0 rt rd s) := by
  unfold execMfc0
  apply keeps_withCop0 h
  split
  · exact keeps_resultW h _ _
  · exact keeps_resultW (h.draw _) _ _
  · exact keeps_refused _

theorem keeps_execMtsa {s : State} (h : Inv s) (rs : Reg) : Result.Keeps (execMtsa rs s) := by
  unfold execMtsa
  split
  · exact keeps_next (h.of_eq rfl rfl rfl rfl rfl rfl rfl fun _ => rfl)
  · exact keeps_next (h.of_eq rfl rfl rfl rfl rfl rfl rfl fun _ => rfl)

/-! ## Floating-point results -/

theorem keeps_resultFpOU {s : State} (h : Inv s) (fd : Reg) (r : Word) (fl : FpFlags) : Result.Keeps (resultFpOU s fd r fl) :=
  keeps_next ((h.writeF fd r).writeFcr31 _ (fcr31View_setFlagsOU fl h.fcr31)).advance

theorem keeps_resultFpID {s : State} (h : Inv s) (fd : Reg) (r : Word) (fl : FpFlags) : Result.Keeps (resultFpID s fd r fl) :=
  keeps_next ((h.writeF fd r).writeFcr31 _ (fcr31View_setFlagsID fl h.fcr31)).advance

theorem keeps_resultAccOU {s : State} (h : Inv s) (r : Word) (fl : FpFlags) : Result.Keeps (resultAccOU s r fl) :=
  keeps_next ({ h with fcr31 := fcr31View_setFlagsOU fl h.fcr31 } : Inv { s with acc := r, fcr31 := _ }).advance

/-! ## Every instruction -/

/-- Grouped by the operation that makes the result. -/
theorem keeps_exec {s : State} (h : Inv s) (i : Instr) : Result.Keeps (exec i s) := by
  cases i with
  | mfhi | mflo | and | andi | ori | or | xor | xori | nor | slt | slti | sltu | sltiu | daddiu | daddu | dsubu |
    dsll | dsrl | dsra | dsll32 | dsrl32 | dsra32 | dsllv | dsrlv | dsrav | mfhi1 | mflo1 | plzcw | mfsa =>
    exact keeps_resultD h _ _
  | addu | subu | lui | addiu | sll | srl | sra | sllv | srlv | srav => exact keeps_resultW h _ _
  | paddb | paddh | paddw | paddsb | paddsh | paddsw | paddub | padduh | padduw | psubb | psubh | psubw | psubsb |
    psubsh | psubsw | psubub | psubuh | psubuw | padsbh | pabsh | pabsw | pmaxh | pmaxw | pminh | pminw | pceqb |
    pceqh | pceqw | pcgtb | pcgth | pcgtw | pand | pxor | pnor | psllh | psrlh | psrah | psllw | psrlw | psraw |
    psllvw | psrlvw | psravw | pmfhi | pmflo | pmfhlLh | pmfhlLw | pmfhlSh | pmfhlSlw | pmfhlUw | pextlb | pextlh |
    pextlw | pextub | pextuh | pextuw | pext5 | ppac5 | ppacb | ppach | ppacw | pcpyh | pcpyld | pcpyud | pexch |
    pexcw | pexeh | pexew | pinth | pinteh | prevh | prot3w | qfsrv =>
    exact keeps_resultQ h _ _
  | add | addi | sub => exact keeps_resultWChecked h _ _ _
  | dadd | daddi | dsub => exact keeps_resultDChecked h _ _ _
  | mult | multu | madd | maddu => exact keeps_resultMul h _ _
  | mult1 | multu1 | madd1 | maddu1 => exact keeps_resultMul1 h _ _
  | div | divu => exact keeps_resultDiv h _
  | div1 | divu1 => exact keeps_resultDiv1 h _
  | pmultw | pmultuw | pmaddw | pmadduw | pmsubw => exact keeps_resultMulPair h _ _ _
  | pmulth | pmaddh | pmsubh => exact keeps_resultSlots h _ _
  | phmadh rs rt rd =>
    show Result.Keeps (execPhmadh rs rt rd s)
    exact keeps_resultHorizontal h _ _
  | phmsbh rs rt rd =>
    show Result.Keeps (execPhmsbh rs rt rd s)
    exact keeps_resultHorizontal h _ _
  | pdivw | pdivuw => exact keeps_resultDivPair h _ _
  | tge | tgeu | tlt | tltu | teq | tne | tgei | tgeiu | tlti | tltiu | teqi | tnei => exact keeps_trapIf h _
  | syscall | breakI => exact keeps_raise h _
  | blez | beq | bne | bgez | bgtz | bltz => exact keeps_branchIf h _ _
  | beql | bnel | bgezl | bgtzl | blezl | bltzl => exact keeps_branchLikelyIf h _ _
  | j | jr => exact keeps_branchTo h _
  | jal => exact keeps_branchTo (h.writeD _ _) _
  | jalr => exact keeps_ite (keeps_refused _) (keeps_branchTo (h.writeD _ _) _)
  | bltzal | bgezal => exact keeps_ite (keeps_refused _) (keeps_branchIf (h.writeD _ _) _ _)
  | bltzall | bgezall => exact keeps_ite (keeps_refused _) (keeps_branchLikelyIf (h.writeD _ _) _ _)
  | movn => exact keeps_ite (keeps_next h.advance) (keeps_resultD h _ _)
  | movz => exact keeps_ite (keeps_resultD h _ _) (keeps_next h.advance)
  | pref | sync => exact keeps_next h.advance
  | lb => exact exec_lb .. ▸ keeps_loadThen h _ _ _ _ _ fun _ _ hu => hu.writeD _ _
  | lbu => exact exec_lbu .. ▸ keeps_loadThen h _ _ _ _ _ fun _ _ hu => hu.writeD _ _
  | lh => exact exec_lh .. ▸ keeps_loadThen h _ _ _ _ _ fun _ _ hu => hu.writeD _ _
  | lhu => exact exec_lhu .. ▸ keeps_loadThen h _ _ _ _ _ fun _ _ hu => hu.writeD _ _
  | lw => exact exec_lw .. ▸ keeps_loadThen h _ _ _ _ _ fun _ _ hu => hu.writeD _ _
  | lwu => exact exec_lwu .. ▸ keeps_loadThen h _ _ _ _ _ fun _ _ hu => hu.writeD _ _
  | ld => exact exec_ld .. ▸ keeps_loadThen h _ _ _ _ _ fun _ _ hu => hu.writeD _ _
  | lq => exact exec_lq .. ▸ keeps_loadThen h _ _ _ _ _ fun _ _ hu => hu.writeQ _ _
  | lwl => exact exec_lwl .. ▸ keeps_loadThen h _ _ _ _ _ fun _ _ hu => hu.writeW _ _
  | lwr => exact exec_lwr .. ▸ keeps_loadThen h _ _ _ _ _ fun _ _ hu => inv_ite (hu.writeW _ _) (hu.writeD _ _)
  | ldl => exact exec_ldl .. ▸ keeps_loadThen h _ _ _ _ _ fun _ _ hu => hu.writeD _ _
  | ldr => exact exec_ldr .. ▸ keeps_loadThen h _ _ _ _ _ fun _ _ hu => hu.writeD _ _
  | sb | sh | sw | sd | sq | swl | swr | sdl | sdr => exact keeps_storeValue h _ _ _ _ _
  | mthi | mtlo | mthi1 | mtlo1 | pmthi | pmtlo | mtsab | mtsah =>
    exact keeps_next (h.of_eq rfl rfl rfl rfl rfl rfl rfl fun _ => rfl)
  | pmthlLw | pdivbw => exact keeps_next (h.writeHiLoQ _ _).advance
  | mtsa => exact keeps_execMtsa h _
  | ei | di => exact keeps_next (inv_ite (h.setEie _) h).advance
  | eret => exact keeps_withCop0 h (keeps_ite (keeps_fault _) (keeps_next h.exceptionReturn))
  | mfc0 => exact keeps_execMfc0 h _ _
  | mtc0 => exact keeps_execMtc0 h _ _
  | bc0f | bc0t => exact keeps_withCop0 h (keeps_branchIf (h.draw _) _ _)
  | bc0fl | bc0tl => exact keeps_withCop0 h (keeps_branchLikelyIf (h.draw _) _ _)
  | mfbpc | mfiab | mfiabm | mfdab | mfdabm | mfdvb | mfdvbm => exact keeps_withCop0 h (keeps_resultW h _ _)
  | mtbpc => exact keeps_withCop0 h (keeps_moved fun _ => h.writeBpc)
  | mtiab | mtdab | mtdabm | mtdvb | mtdvbm =>
    refine keeps_withCop0 h (keeps_next (Inv.advance ?_))
    exact h.writeDebug _ h.breakpoints
  | mfpc =>
    exact keeps_withCop0 h (keeps_ite (keeps_refused _) (keeps_ite (keeps_resultW (h.draw _) _ _) (keeps_resultW h _ _)))
  | mfps => exact keeps_withCop0 h (keeps_ite (keeps_resultW h _ _) (keeps_refused _))
  | mtpc =>
    refine keeps_withCop0 h (keeps_ite (keeps_refused _) (keeps_ite (keeps_next (Inv.advance ?_))
      (keeps_next (Inv.advance ?_))))
    · exact h.writePerf _ h.counters
    · exact h.writePerf _ h.counters
  | mtps => exact keeps_withCop0 h (keeps_ite (keeps_moved fun _ => h.writePccr) (keeps_refused _))
  | mfc1 => exact keeps_withCop1 h (keeps_resultW h _ _)
  | mtc1 | movS | cvtSW | cvtWS => exact keeps_withCop1 h (keeps_next (h.writeF _ _).advance)
  | cfc1 =>
    exact keeps_withCop1 h (keeps_ite (keeps_resultW h _ _) (keeps_ite (keeps_resultW h _ _) (keeps_resultW (h.draw _) _ _)))
  | ctc1 =>
    exact keeps_withCop1 h (keeps_ite (keeps_next (h.writeFcr31 _ (fcr31View_view _)).advance) (keeps_next h.advance))
  | lwc1 =>
    refine keeps_withCop1 h (keeps_loadThen h _ _ _ _ _ fun _ _ hu => ?_)
    exact hu.writeF _ _
  | swc1 => exact keeps_withCop1 h (keeps_storeValue h _ _ _ _ _)
  | bc1f | bc1t => exact keeps_withCop1 h (keeps_branchIf h _ _)
  | bc1fl | bc1tl => exact keeps_withCop1 h (keeps_branchLikelyIf h _ _)
  | cFS | cEqS | cLtS | cLeS =>
    exact keeps_withCop1 h (keeps_next (h.writeFcr31 _ (fcr31View_setFpCondition _ h.fcr31)).advance)
  | absS | negS | addS | subS | mulS | maxS | minS | maddS | msubS => exact keeps_withCop1 h (keeps_resultFpOU h _ _ _)
  | divS | sqrtS | rsqrtS => exact keeps_withCop1 h (keeps_resultFpID h _ _ _)
  | mulaS | subaS | maddaS | msubaS => exact keeps_withCop1 h (keeps_resultAccOU h _ _)

/-! ## The step -/

theorem keeps_withCopOf {s : State} (h : Inv s) (w : Word) {k : Result} (hk : Result.Keeps k) :
    Result.Keeps (withCopOf w s k) :=
  keeps_ite (keeps_withCop0 h hk) (keeps_ite (keeps_withCop1 h hk) hk)

theorem keeps_undecodable {s : State} (h : Inv s) (e : DecodeError) (w : Word) : Result.Keeps (undecodable e w s) := by
  cases e with
  | reserved => exact keeps_withCopOf h w (keeps_raise h _)
  | truncated => exact keeps_raise h _
  | coprocessor2 => exact keeps_ite (keeps_refused _) (keeps_raise h _)
  | unlisted name => exact keeps_withCopOf h w (keeps_refused _)

/-- The state after a fetch: the same, but for a draw where a device answers. -/
theorem fetch_word_state {s t : State} {w : Word} (h : fetch s = .word w t) : t = s ∨ t = { s with draws := s.draws + 1 } := by
  have answered {q : Quad} {u : State} (h : fetched s q u = .word w t) : t = u := by
    unfold fetched at h
    split at h
    · cases h
    · injection h with _ h; exact h.symm
  unfold fetch at h
  split at h
  · cases h
  · cases h
  · exact .inl (answered h)
  · exact .inr (answered h)

theorem keeps_runInstruction {s : State} (h : Inv s) : Result.Keeps (runInstruction s) := by
  unfold runInstruction
  split
  · exact keeps_raise h _
  · exact keeps_fault _
  · rename_i w t fetched
    have ht : Inv t := by
      obtain rfl | rfl := fetch_word_state fetched
      · exact h
      · exact h.draw _
    split
    · exact keeps_exec ht _
    · exact keeps_undecodable ht _ w

/-- The events, in their order. -/
theorem Inv.eventTaken {s u : State} {t : EnvTick} (h : Inv s) (e : eventTaken t s = some u) : Inv u := by
  unfold Machine.eventTaken at e
  split at e
  · injection e with e; exact e ▸ h.resetEvent
  split at e
  · injection e with e; exact e ▸ h.takeEvent2 .nmi
  split at e
  · injection e with e; exact e ▸ h.takeEvent2 .performanceCounter
  split at e
  · injection e with e; exact e ▸ h.takeEvent2 .debug
  split at e
  · injection e with e; exact e ▸ h.takeException .interrupt
  · cases e

/-- Settles O15: sampling keeps the invariant, and so does the event that follows it, or else the instruction. -/
theorem invariantIsKeptByEveryStep : Obligations.InvariantIsKeptByEveryStep := by
  unfold Obligations.InvariantIsKeptByEveryStep
  intro s t h e
  cases event : eventTaken s.tick s.sample with
  | some u =>
    rw [step_of_event event] at e
    injection e with e
    exact e ▸ h.sample.eventTaken event
  | none => exact keeps_runInstruction h.sample t (step_of_no_event event ▸ e)

end Sys2Proof.Machine
end

section
/-! Words as numbers: the bit-vector operations that the instructions are made of, written as `BitVec.ofInt` of the number that a
statement names. -/

namespace Sys2Proof.Machine

/-! ## A bit vector as the image of its value -/

theorem ofInt_sub {n : Nat} (i j : Int) : BitVec.ofInt n (i - j) = BitVec.ofInt n i - BitVec.ofInt n j := by
  rw [Int.sub_eq_add_neg, BitVec.ofInt_add, BitVec.ofInt_neg, ← BitVec.sub_eq_add_neg]

/-- The unsigned value is the signed one modulo `2 ^ n`. -/
theorem toNat_eq_toInt_emod {n : Nat} (x : BitVec n) : (x.toNat : Int) = x.toInt % 2 ^ n := by
  conv_lhs => rw [← BitVec.ofInt_toInt (x := x), BitVec.toNat_ofInt]
  rw [Int.toNat_of_nonneg (Int.emod_nonneg _ (by positivity))]
  push_cast
  rfl

/-- The signed value of a widened bit vector is its own. -/
theorem toInt_signExtend_le {n m : Nat} (x : BitVec n) (h : n ≤ m) : (x.signExtend m).toInt = x.toInt :=
  BitVec.toInt_signExtend_of_le h

/-! ## Sums, differences, products -/

theorem add_eq_ofInt {n : Nat} (x y : BitVec n) : x + y = BitVec.ofInt n (x.toInt + y.toInt) := by
  rw [BitVec.ofInt_add, BitVec.ofInt_toInt, BitVec.ofInt_toInt]

theorem sub_eq_ofInt {n : Nat} (x y : BitVec n) : x - y = BitVec.ofInt n (x.toInt - y.toInt) := by
  rw [ofInt_sub, BitVec.ofInt_toInt, BitVec.ofInt_toInt]

/-! ## Shifts -/

theorem shiftLeft_eq_ofNat {n : Nat} (x : BitVec n) (k : Nat) : x <<< k = BitVec.ofNat n (x.toNat * 2 ^ k) := by
  apply BitVec.eq_of_toNat_eq
  rw [BitVec.toNat_shiftLeft, BitVec.toNat_ofNat, Nat.shiftLeft_eq]

theorem ushiftRight_eq_ofNat {n : Nat} (x : BitVec n) (k : Nat) : x >>> k = BitVec.ofNat n (x.toNat / 2 ^ k) := by
  apply BitVec.eq_of_toNat_eq
  rw [BitVec.toNat_ushiftRight, BitVec.toNat_ofNat, Nat.shiftRight_eq_div_pow,
    Nat.mod_eq_of_lt (Nat.lt_of_le_of_lt (Nat.div_le_self _ _) x.isLt)]

theorem sshiftRight_eq_ofInt {n : Nat} (x : BitVec n) (k : Nat) : x.sshiftRight k = BitVec.ofInt n (x.toInt / 2 ^ k) := by
  conv_lhs => rw [← BitVec.ofInt_toInt (x := x.sshiftRight k), BitVec.toInt_sshiftRight, Int.shiftRight_eq_div_pow]
  push_cast
  rfl

/-! ## Words and doublewords -/

/-- A number cut to a word and sign-extended (00_scope.md R8). -/
theorem sext64_ofInt (i : Int) : sext64 (BitVec.ofInt 32 i) = signedWord i := by
  show BitVec.ofInt 64 (BitVec.ofInt 32 i).toInt = _
  rw [BitVec.toInt_ofInt]
  rfl

theorem sext64_ofNat (i : Nat) : sext64 (BitVec.ofNat 32 i) = signedWord i := by
  rw [← BitVec.ofInt_natCast, sext64_ofInt]

theorem sext64_eq_ofInt (w : Word) : sext64 w = BitVec.ofInt 64 w.toInt := rfl

theorem zext64_eq_ofInt (w : Word) : zext64 w = BitVec.ofInt 64 w.toNat := by
  apply BitVec.eq_of_toNat_eq
  rw [BitVec.ofInt_natCast, BitVec.toNat_ofNat]
  simp [zext64]

theorem lowW_ofInt (p : Int) : lowW (BitVec.ofInt 64 p) = BitVec.ofInt 32 p := by
  apply BitVec.eq_of_toNat_eq
  simp only [lowW, BitVec.extractLsb'_toNat, BitVec.toNat_ofInt, Nat.shiftRight_zero]
  push_cast
  omega

theorem highW_ofInt (p : Int) : highW (BitVec.ofInt 64 p) = BitVec.ofInt 32 (p / 2 ^ 32) := by
  apply BitVec.eq_of_toNat_eq
  simp only [highW, BitVec.extractLsb'_toNat, BitVec.toNat_ofInt, Nat.shiftRight_eq_div_pow]
  push_cast
  omega

/-- Two words as one number: the upper one signed, the lower one not. -/
theorem joinW_eq_ofInt (h l : Word) : joinW h l = BitVec.ofInt 64 (h.toInt * 2 ^ 32 + l.toNat) := by
  rw [← BitVec.ofInt_toInt (x := joinW h l)]
  unfold joinW
  rw [BitVec.toInt_append, if_neg (by decide)]
  congr 1
  ring

/-! ## Packed lanes, and the bytes of an access (20_memory.md R63) -/

theorem toNat_packLanes_lt (w : Nat) (g : Nat → BitVec w) (n : Nat) (h : w * n ≤ 128) :
    (packLanes w g n).toNat < 2 ^ (w * n) := by
  induction n with
  | zero => simp [packLanes]
  | succ n ih =>
    have hn : w * n + w ≤ 128 := by rwa [Nat.mul_succ] at h
    have lower := ih (by omega)
    simp only [packLanes, BitVec.toNat_or, BitVec.toNat_shiftLeft, BitVec.toNat_setWidth]
    refine Nat.or_lt_two_pow (lower.trans_le (Nat.pow_le_pow_right (by decide) (Nat.mul_le_mul_left w n.le_succ))) ?_
    refine Nat.lt_of_le_of_lt (Nat.mod_le _ _) ?_
    have upper : (g n).toNat % 2 ^ 128 < 2 ^ w := Nat.lt_of_le_of_lt (Nat.mod_le _ _) (g n).isLt
    rw [Nat.shiftLeft_eq, Nat.mul_succ, Nat.pow_add, Nat.mul_comm (2 ^ (w * n))]
    exact Nat.mul_lt_mul_of_pos_right upper (Nat.two_pow_pos _)

/-- Packed lanes as a number: lane `k` weighs `2 ^ (w * k)`. -/
theorem toNat_packLanes_succ (w : Nat) (g : Nat → BitVec w) (n : Nat) (h : w * (n + 1) ≤ 128) :
    (packLanes w g (n + 1)).toNat = (packLanes w g n).toNat + (g n).toNat * 2 ^ (w * n) := by
  have hn : w * n + w ≤ 128 := by rwa [Nat.mul_succ] at h
  have fits : (g n).toNat * 2 ^ (w * n) < 2 ^ 128 := calc
    (g n).toNat * 2 ^ (w * n) < 2 ^ w * 2 ^ (w * n) := Nat.mul_lt_mul_of_pos_right (g n).isLt (Nat.two_pow_pos _)
    _ = 2 ^ (w * n + w) := by rw [Nat.mul_comm, ← Nat.pow_add]
    _ ≤ 2 ^ 128 := Nat.pow_le_pow_right (by decide) hn
  have narrow : (g n).toNat < 2 ^ 128 := (g n).isLt.trans_le (Nat.pow_le_pow_right (by decide) (by omega))
  simp only [packLanes, BitVec.toNat_or, BitVec.toNat_shiftLeft, BitVec.toNat_setWidth, Nat.mod_eq_of_lt narrow]
  rw [Nat.mod_eq_of_lt (by rwa [Nat.shiftLeft_eq]), Nat.lor_comm,
    ← Nat.shiftLeft_add_eq_or_of_lt (toNat_packLanes_lt w g n (by omega)), Nat.shiftLeft_eq, Nat.add_comm]

theorem toNat_readBytes (m : Memory) (a : Addr) (n : Nat) (hn : n ≤ 16) :
    (m.readBytes a n).toNat = littleEndian m a n := by
  induction n with
  | zero => rfl
  | succ n ih =>
    have step := toNat_packLanes_succ 8 (fun k => Memory.read m (byteAddr a k)) n (by omega)
    rw [littleEndian, ← ih (by omega), ← byteAddr_eq]
    exact step

end Sys2Proof.Machine
end

section
/-! Memory is a function in canonical form (20_memory.md R60): what its bytes read determines it. Addresses, modes and segments in
numbers (45_load_store.md R270, 60_exceptions.md R560, 20_memory.md R71). -/

namespace Sys2Proof.Machine

/-! ## The canonical form -/

theorem Memory.wfFrom_cons {lo a : Nat} {v : Byte} {m : Memory} :
    Memory.wfFrom lo ((a, v) :: m) = true ↔ lo ≤ a ∧ a < 2 ^ 32 ∧ v ≠ Memory.unlisted ∧ Memory.wfFrom (a + 1) m = true := by
  simp only [Memory.wfFrom, Bool.and_eq_true, decide_eq_true_eq, bne_iff_ne, and_assoc]

theorem Memory.read_head (a : Nat) (v : Byte) (m : Memory) : Memory.read ((a, v) :: m) a = v := if_pos rfl

/-- The rest of a canonical memory reads as the whole, but at the first listed address. -/
theorem Memory.read_tail {a : Nat} {v : Byte} {m : Memory} (h : Memory.wfFrom (a + 1) m = true) (b : Nat) :
    Memory.read m b = if b = a then Memory.unlisted else Memory.read ((a, v) :: m) b := by
  by_cases hb : b = a
  · rw [if_pos hb]
    exact Memory.read_below h (by omega)
  · rw [if_neg hb]
    exact (if_neg (Ne.symm hb)).symm

/-- A canonical memory that reads a listed byte at `a` does not begin above `a`. -/
theorem Memory.head_le {lo a b : Nat} {w : Byte} {m : Memory} (h : Memory.wfFrom lo ((b, w) :: m) = true)
    (listed : Memory.read ((b, w) :: m) a ≠ Memory.unlisted) : b ≤ a := by
  by_contra below
  obtain ⟨-, hb, hw, hm⟩ := Memory.wfFrom_cons.mp h
  have fromHead : Memory.wfFrom b ((b, w) :: m) = true := Memory.wfFrom_cons.mpr ⟨Nat.le_refl b, hb, hw, hm⟩
  exact listed (Memory.read_below fromHead (by omega))

/-- Two canonical memories that read alike are equal. -/
theorem Memory.eq_of_read_eq {lo₁ lo₂ : Nat} {m₁ m₂ : Memory} (h₁ : Memory.wfFrom lo₁ m₁ = true)
    (h₂ : Memory.wfFrom lo₂ m₂ = true) (alike : ∀ a, Memory.read m₁ a = Memory.read m₂ a) : m₁ = m₂ := by
  induction m₁ generalizing lo₁ lo₂ m₂ with
  | nil =>
    cases m₂ with
    | nil => rfl
    | cons c m₂ =>
      obtain ⟨-, -, listed, -⟩ := Memory.wfFrom_cons.mp h₂
      exact absurd ((Memory.read_head ..).symm.trans (alike c.1).symm) listed
  | cons c m₁ ih =>
    obtain ⟨a, v⟩ := c
    obtain ⟨-, -, hv, tail₁⟩ := Memory.wfFrom_cons.mp h₁
    cases m₂ with
    | nil => exact absurd ((Memory.read_head ..).symm.trans (alike a)) hv
    | cons d m₂ =>
      obtain ⟨b, w⟩ := d
      obtain ⟨-, -, hw, tail₂⟩ := Memory.wfFrom_cons.mp h₂
      have ba : b ≤ a := Memory.head_le h₂ (by rwa [← alike a, Memory.read_head])
      have ab : a ≤ b := Memory.head_le h₁ (by rwa [alike b, Memory.read_head])
      obtain rfl : a = b := Nat.le_antisymm ab ba
      obtain rfl : v = w := by rw [← Memory.read_head a v m₁, alike a, Memory.read_head]
      have tails : ∀ x, Memory.read m₁ x = Memory.read m₂ x := fun x => by
        rw [Memory.read_tail (v := v) tail₁, Memory.read_tail (v := v) tail₂, alike x]
      rw [ih tail₁ tail₂ tails]

/-- Settles O3: the weight of each byte by induction on their number, and the canonical form by induction on the memories. -/
theorem memoryIsLittleEndianAndCanonical : Obligations.MemoryIsLittleEndianAndCanonical := by
  unfold Obligations.MemoryIsLittleEndianAndCanonical
  exact ⟨toNat_readBytes, fun _ _ => Memory.eq_of_read_eq⟩

/-! ## Addresses, modes, segments -/

theorem effAddr_eq (s : State) (base : Reg) (offset : BitVec 16) :
    ((s.effAddr base offset).toNat : Int) = ((s.readW base).toNat + offset.toInt) % 2 ^ 32 := by
  rw [State.effAddr, BitVec.toNat_add]
  push_cast
  rw [toNat_eq_toInt_emod (signImmW offset), signImmW, toInt_signExtend_le _ (by decide)]
  simp

/-- KSU is bits 4:3 of Status. -/
theorem ksu_toNat (s : State) :
    (s.cop0.status.extractLsb' 3 2).toNat = 2 * (s.statusBit 4).toNat + (s.statusBit 3).toNat := by
  simp only [State.statusBit, BitVec.getLsbD, Nat.toNat_testBit, BitVec.extractLsb'_toNat, Nat.shiftRight_eq_div_pow]
  omega

/-- 60_exceptions.md R560: EXL or ERL gives kernel mode. -/
theorem mode_of_privileged {s : State} (h : s.statusBit 1 = true ∨ s.statusBit 2 = true) : s.mode = .kernel := by
  unfold State.mode
  exact if_pos (by simpa using h)

/-- 60_exceptions.md R560: else KSU decides. -/
theorem mode_of_ksu {s : State} (h : ¬ (s.statusBit 1 = true ∨ s.statusBit 2 = true)) :
    s.mode = match s.statusBit 4, s.statusBit 3 with
      | false, false => .kernel
      | false, true => .supervisor
      | true, false => .user
      | true, true => .reserved := by
  unfold State.mode
  exact if_neg (by simpa using h)

theorem segmentAllows_supervisor_iff (a : Addr) :
    segmentAllows .supervisor a = true ↔ a.toNat < 0x80000000 ∨ (0xC0000000 ≤ a.toNat ∧ a.toNat ≤ 0xDFFFFFFF) := by
  simp only [segmentAllows, Bool.or_eq_true, Bool.and_eq_true, decide_eq_true_eq]
  omega

/-- Settles O4: the mode from the four bits that decide it, the segments from their bounds. -/
theorem addressesModesAndSegments : Obligations.AddressesModesAndSegments := by
  unfold Obligations.AddressesModesAndSegments
  intro s base offset a privileged ksu
  have modes : (s.mode = .kernel ↔ privileged ∨ ksu = 0) ∧ (s.mode = .supervisor ↔ ¬ privileged ∧ ksu = 1) ∧
      (s.mode = .user ↔ ¬ privileged ∧ ksu = 2) ∧ (s.mode = .reserved ↔ ¬ privileged ∧ ksu = 3) := by
    have hksu : ksu = 2 * (s.statusBit 4).toNat + (s.statusBit 3).toNat := ksu_toNat s
    by_cases h : privileged
    · simp [mode_of_privileged h, h]
    · cases h4 : s.statusBit 4 <;> cases h3 : s.statusBit 3 <;> simp [mode_of_ksu h, hksu, h, h4, h3]
  obtain ⟨kernel, supervisor, user, reserved⟩ := modes
  exact ⟨effAddr_eq s base offset, kernel, supervisor, user, reserved, rfl, segmentAllows_supervisor_iff a,
    decide_eq_true_iff, rfl⟩

end Sys2Proof.Machine
end

section
/-! The step (10_state.md R27, 60_exceptions.md R551): the order of the events, the reset event, what a step does where no event is
taken and the fetch succeeds, and where it fails. -/

namespace Sys2Proof.Machine

/-! ## Sampling -/

theorem tick_of_env_nil {s : State} (h : s.env = []) : s.tick = quietTick s := by
  unfold State.tick
  rw [h]

theorem enabledHits_zero (bpc : Word) : enabledHits bpc 0 = 0 := BitVec.zero_and

/-- Where no input is scheduled sampling changes nothing. -/
theorem sample_of_env_nil {s : State} (h : s.env = []) : s.sample = s := by
  have quiet := tick_of_env_nil h
  have bpc : s.dbg.bpc ||| (enabledHits s.dbg.bpc (quietTick s).debugHit).setWidth 32 = s.dbg.bpc := by
    rw [show (quietTick s).debugHit = 0 from rfl, enabledHits_zero]
    exact BitVec.or_zero
  unfold State.sample
  rw [quiet, bpc, h]
  show { s with env := [] } = s
  rw [← h]

/-! ## Events, in their order -/

theorem step_of_reset {s : State} (reset : s.tick.reset = true) : step s = .next (resetEvent s.sample) :=
  step_of_event (by simp only [eventTaken, reset, if_true])

/-- What is due after reset and NMI. -/
theorem eventTaken_of_no_reset_nmi {s : State} (noReset : s.tick.reset = false) (noNmi : s.tick.nmi = false) :
    eventTaken s.tick s.sample =
      if s.tick.perfOverflow && s.perf.pccr.getLsbD 31 && !s.statusBit 2 then some (takeEvent2 .performanceCounter s.sample)
      else if debugRaises s.sample.dbg.bpc (enabledHits s.sample.dbg.bpc s.tick.debugHit) then
        some (takeEvent2 .debug s.sample)
      else if s.sample.interruptPending then some (takeException .interrupt s.sample) else none := by
  unfold eventTaken
  exact (if_neg (Bool.eq_false_iff.mp noReset)).trans (if_neg (Bool.eq_false_iff.mp noNmi))

/-- Settles O9: the events of `eventTaken` from the first to the last. -/
theorem eventsAreTakenInOrder : Obligations.EventsAreTakenInOrder := by
  unfold Obligations.EventsAreTakenInOrder
  intro s u counter match_
  have counterDue : (s.tick.perfOverflow && s.perf.pccr.getLsbD 31 && !s.statusBit 2) = true ↔ counter := by
    simp only [counter, Bool.and_eq_true, Bool.not_eq_true', and_assoc]
  refine ⟨step_of_reset, ?nmi, ?counter, ?debug, ?interrupt, ?none⟩
  case nmi =>
    intro noReset nmi
    exact step_of_event (by simp only [eventTaken, noReset, nmi, Bool.false_eq_true, if_false, if_true]; rfl)
  case counter =>
    intro noReset noNmi due
    exact step_of_event ((eventTaken_of_no_reset_nmi noReset noNmi).trans (if_pos (counterDue.mpr due)))
  case debug =>
    intro noReset noNmi noCounter due
    exact step_of_event ((eventTaken_of_no_reset_nmi noReset noNmi).trans
      ((if_neg (mt counterDue.mp noCounter)).trans (if_pos due)))
  case interrupt =>
    intro noReset noNmi noCounter noMatch due
    exact step_of_event ((eventTaken_of_no_reset_nmi noReset noNmi).trans
      ((if_neg (mt counterDue.mp noCounter)).trans ((if_neg noMatch).trans (if_pos due))))
  case none =>
    intro noReset noNmi noCounter noMatch none
    exact step_of_no_event ((eventTaken_of_no_reset_nmi noReset noNmi).trans
      ((if_neg (mt counterDue.mp noCounter)).trans ((if_neg noMatch).trans (if_neg (Bool.eq_false_iff.mp none)))))

/-- Where no input is scheduled the one event that can be due is the interrupt. -/
theorem eventTaken_of_env_nil {s : State} (h : s.env = []) :
    eventTaken s.tick s.sample = if s.interruptPending then some (takeException .interrupt s) else none := by
  have quiet := tick_of_env_nil h
  rw [eventTaken_of_no_reset_nmi (congrArg EnvTick.reset quiet) (congrArg EnvTick.nmi quiet), sample_of_env_nil h, quiet]
  have noMatch : debugRaises s.dbg.bpc (enabledHits s.dbg.bpc (quietTick s).debugHit) = false := by
    rw [show (quietTick s).debugHit = 0 from rfl, enabledHits_zero, debugRaises_zero]
  rw [noMatch]
  rfl

theorem step_of_env_nil {s : State} (h : s.env = []) (noInterrupt : s.interruptPending = false) :
    step s = runInstruction s := by
  have event := eventTaken_of_env_nil h
  rw [noInterrupt] at event
  exact (step_of_no_event event).trans (by rw [sample_of_env_nil h])

/-! ## No counter and no breakpoint (60_exceptions.md R576) -/

theorem Inv.unarmed {s : State} (h : Inv s) : ∀ k ∈ [29, 30, 31], s.dbg.bpc.getLsbD k = false := by
  intro k hk
  have bit := congrArg (·.getLsbD k) h.breakpoints
  rw [BitVec.getLsbD_and] at bit
  have armed : (0xE0000000 : Word).getLsbD k = true := (by decide : ∀ k ∈ [29, 30, 31], (0xE0000000 : Word).getLsbD k = true) k hk
  rw [armed, Bool.and_true] at bit
  exact bit.trans BitVec.getLsbD_zero

/-- Settles O16: the invariant leaves the interrupt as the only event, and sampling records no match. -/
theorem noCounterOrBreakpointException : Obligations.NoCounterOrBreakpointException := by
  unfold Obligations.NoCounterOrBreakpointException
  intro s h noReset noNmi noInterrupt
  have event := eventTaken_eq_interrupt noReset noNmi h.counters h.unarmed
  rw [noInterrupt] at event
  have bpc := bpc_sample_of_unarmed h.unarmed
  refine ⟨step_of_no_event event, ?_⟩
  show { s.dbg with bpc := s.sample.dbg.bpc } = s.dbg
  rw [bpc]

/-! ## The reset event (70_reset_and_hazards.md R580) -/

theorem statusBit_resetEvent (s : State) (k : Nat) :
    (resetEvent s).statusBit k = (k == 2 || k == 22 || (s.statusBit k && k != 12)) := by
  show (setBit (setBit (setBit s.cop0.status 2 true) 22 true) 12 false).getLsbD k = _
  rw [getLsbD_setBit _ _ _ _ (by decide), getLsbD_setBit _ _ _ _ (by decide), getLsbD_setBit _ _ _ _ (by decide)]
  by_cases h2 : k = 2
  · simp [h2]
  · by_cases h22 : k = 22
    · simp [h22]
    · rw [if_neg h22, if_neg h2, beq_eq_false_iff_ne.mpr h2, beq_eq_false_iff_ne.mpr h22]
      by_cases h12 : k = 12 <;> simp [h12, State.statusBit]

theorem cause_resetEvent (s : State) (k : Nat) :
    (resetEvent s).cop0.cause.getLsbD k =
      if k = 30 then s.bd else s.cop0.cause.getLsbD k && !(decide (16 ≤ k) && decide (k ≤ 18)) := by
  show (putField (setBit s.cop0.cause 30 s.bd) 16 (0 : BitVec 3)).getLsbD k = _
  rw [getLsbD_putField _ _ _ _ (by decide), getLsbD_setBit _ _ _ _ (by decide)]
  by_cases h : 16 ≤ k ∧ k < 16 + 3
  · have h18 : k ≤ 18 := by omega
    have h30 : k ≠ 30 := by omega
    simp [h, h18, h30]
  · have hfield : ¬ (16 ≤ k ∧ k ≤ 18) := by omega
    rw [if_neg h, ← Bool.decide_and, decide_eq_false hfield, Bool.not_false, Bool.and_true]

/-- Clearing the bits of a mask, which are those of a list. -/
theorem getLsbD_and_not (w m : Word) (l : List Nat) (hm : ∀ j : Fin 32, m.getLsbD j = decide (j.val ∈ l)) (k : Nat) :
    (w &&& ~~~m).getLsbD k = (w.getLsbD k && decide (k ∉ l)) := by
  by_cases hk : k < 32
  · have hmk := hm ⟨k, hk⟩
    dsimp only at hmk
    rw [BitVec.getLsbD_and, BitVec.getLsbD_not, hmk]
    simp [hk]
  · rw [BitVec.getLsbD_of_ge _ _ (by omega), BitVec.getLsbD_of_ge _ _ (by omega), Bool.false_and]

theorem frame_resetEvent (s : State) :
    Frame s (resetEvent s) (· ∈ [.errorEpc, .status, .cause, .config, .bpc, .pccr]) := by
  refine ⟨fun v hv => ?_, rfl, rfl⟩
  cases v with
  | errorEpc | status | cause | config | bpc | pccr => simp at hv
  | _ => rfl

/-- Settles O10: the registers that the reset event writes, bit by bit, and its frame. -/
theorem resetEventSetsTheStatedValues : Obligations.ResetEventSetsTheStatedValues := by
  unfold Obligations.ResetEventSetsTheStatedValues
  intro s reset u
  refine ⟨resetEvent u, step_of_reset reset, rfl, rfl, rfl, rfl, statusBit_resetEvent u, cause_resetEvent u, ?config, ?bpc,
    ?pccr, frame_resetEvent u⟩
  case config => exact getLsbD_and_not _ _ _ (by decide)
  case bpc => exact getLsbD_and_not _ _ _ (by decide)
  case pccr =>
    intro k
    show (setBit s.perf.pccr 31 false).getLsbD k = _
    rw [getLsbD_setBit _ _ _ _ (by decide)]
    by_cases h : k = 31 <;> simp [h]

/-! ## Running the fetched word -/

theorem runInstruction_of_raises {s : State} {e : Exc} (h : fetch s = .raises e) : runInstruction s = raise e s := by
  unfold runInstruction
  rw [h]

theorem runInstruction_of_stops {s : State} {f : Fault} (h : fetch s = .stops f) : runInstruction s = .fault f := by
  unfold runInstruction
  rw [h]

theorem runInstruction_of_ok {s t : State} {w : Word} {i : Instr} (h : fetch s = .word w t) (hw : decode w = .ok i) :
    runInstruction s = exec i t := by
  unfold runInstruction
  simp only [h, hw]

theorem runInstruction_of_error {s t : State} {w : Word} {e : DecodeError} (h : fetch s = .word w t)
    (hw : decode w = .error e) : runInstruction s = undecodable e w t := by
  unfold runInstruction
  simp only [h, hw]

/-- 20_memory.md R63: the fetched word in numbers. -/
theorem readWord_eq (m : Memory) (a : Addr) : (m.readBytes a 4).setWidth 32 = BitVec.ofNat 32 (littleEndian m a 4) := by
  rw [← toNat_readBytes m a 4 (by decide)]
  rfl

/-- A step that fetches from ordinary memory which no store has touched, where no event is taken. -/
theorem fetch_sample_ram {s : State} (aligned : s.pc.toNat % 4 = 0) (allowed : segmentAllows s.mode s.pc = true)
    (ram : MapGives s .fetch s.pc 4 .ram) (untouched : ∀ k, k < 4 → (s.pc.toNat + k) % 2 ^ 32 ∉ s.stored) :
    fetch s.sample = .word (BitVec.ofNat 32 (littleEndian s.mem s.pc 4)) s.sample := by
  rw [← readWord_eq]
  exact fetch_ram (s := s.sample) aligned allowed ram untouched

/-- Settles O8: the fetched word decodes to the instruction that runs; without inputs sampling and events are trivial. -/
theorem stepRunsTheDecodedInstruction : Obligations.StepRunsTheDecodedInstruction := by
  unfold Obligations.StepRunsTheDecodedInstruction
  intro s i
  constructor
  · intro aligned allowed ram untouched _ decoded noEvent
    exact (step_of_no_event noEvent).trans
      (runInstruction_of_ok (fetch_sample_ram aligned allowed ram untouched) decoded)
  · intro henv
    refine ⟨sample_of_env_nil henv, ?_⟩
    rw [eventTaken_of_env_nil henv]
    cases s.interruptPending <;> simp

/-! ## Words that are no instruction of the listing (30_encoding.md R112, 60_exceptions.md R544, R545) -/

theorem withCopOf_usable {w : Word} {s : State} (k : Result) (h0 : opOf w = 0b010000#6 → s.cop0Usable = true)
    (h1 : opOf w = 0b010001#6 → s.cop1Usable = true) : withCopOf w s k = k := by
  unfold withCopOf
  split
  · rename_i h; exact withCop0_usable (h0 h) k
  · split
    · rename_i h; exact withCop1_usable (h1 h) k
    · rfl

theorem withCopOf_cop0_unusable {w : Word} {s : State} (k : Result) (h : opOf w = 0b010000#6) (hu : s.cop0Usable = false) :
    withCopOf w s k = raise (.coprocessorUnusable 0) s := by
  unfold withCopOf
  rw [if_pos h, withCop0_unusable hu]

theorem withCopOf_cop1_unusable {w : Word} {s : State} (k : Result) (h : opOf w = 0b010001#6) (hu : s.cop1Usable = false) :
    withCopOf w s k = raise (.coprocessorUnusable 1) s := by
  unfold withCopOf
  rw [if_neg (by rw [h]; decide), if_pos h, withCop1_unusable hu]

theorem decode_coprocessor2 (w : Word) (h : opOf w = 0b010010 ∨ opOf w = 0b110110 ∨ opOf w = 0b111110) :
    decode w = .error .coprocessor2 := by
  obtain h | h | h := h <;> (rw [decode, h]; rfl)

theorem decode_cache (w : Word) (h : opOf w = 0b101111) : decode w = .error (.unlisted "CACHE") := by
  rw [decode, h]; rfl

theorem decode_por (a b c : BitVec 5) : decode (mkR 0b011100#6 a b c 0b10010#5 0b101001#6) = .error (.unlisted "POR") := by
  rw [decode_mmi3 (opOf_mkR ..) (fnOf_mkR ..), decodeMmi3, saOf_mkR]; rfl

theorem decode_mtiabm (a : BitVec 5) : decode (mkR 0b010000#6 0b00100#5 a 24#5 0#5 0b000011#6) =
    .error (.unlisted "MTIABM") := by
  rw [decode_debugTo (opOf_mkR ..) (rsOf_mkR ..) (rdOf_mkR ..), decodeDebugTo, fnOf_mkR]
  exact if_pos (saOf_mkR ..)

theorem decode_addaS (a b : BitVec 5) : decode (mkR 0b010001#6 0b10000#5 a b 0#5 0b011000#6) =
    .error (.unlisted "ADDA.S") := by
  rw [decode_fmtS (opOf_mkR ..) (rsOf_mkR ..), decodeFmtS, fnOf_mkR]
  exact if_pos (saOf_mkR ..)

/-- The coprocessor-0 operations that the listing lacks. -/
theorem decode_tlb (fn : BitVec 6) (name : String) (h : ∀ w, fnOf w = fn → decodeC0op w =
      strictUnlisted (rtOf w = 0 ∧ rdOf w = 0 ∧ saOf w = 0) name) :
    decode (mkR 0b010000#6 0b10000#5 0#5 0#5 0#5 fn) = .error (.unlisted name) := by
  rw [decode_c0op (opOf_mkR ..) (rsOf_mkR ..), h _ (fnOf_mkR ..)]
  exact if_pos ⟨rtOf_mkR .., rdOf_mkR .., saOf_mkR ..⟩

/-- Settles O7: the fetched word goes to `undecodable`, whose cases are those of the statement. -/
theorem undecodedWordsRaise : Obligations.UndecodedWordsRaise := by
  unfold Obligations.UndecodedWordsRaise
  refine ⟨?_, decode_coprocessor2, decode_cache, fun a b c => ⟨decode_por a b c, decode_mtiabm a, decode_addaS a b⟩,
    decode_tlb _ _ fun w h => ?_, decode_tlb _ _ fun w h => ?_, decode_tlb _ _ fun w h => ?_, decode_tlb _ _ fun w h => ?_⟩
  · intro s w aligned allowed ram untouched hw noEvent raises usable rejected
    have fetched : fetch s.sample = .word w s.sample := hw ▸ fetch_sample_ram aligned allowed ram untouched
    have runs {e : DecodeError} (h : decode w = .error e) : step s = undecodable e w s.sample :=
      (step_of_no_event noEvent).trans (runInstruction_of_error fetched h)
    have tested (h : rejected) : ∃ k, step s = withCopOf w s.sample k := by
      obtain h | ⟨name, h⟩ := h
      · exact ⟨_, runs h⟩
      · exact ⟨_, runs h⟩
    refine ⟨fun h ⟨h0, h1⟩ => ?reserved, fun name h ⟨h0, h1⟩ => ?unlisted, fun h hop hu => ?cop0, fun h hop hu => ?cop1,
      fun h => ?cop2⟩
    case reserved =>
      exact ⟨_, (runs h).trans (withCopOf_usable _ h0 h1), takeException_enters .reservedInstruction _⟩
    case unlisted => exact (runs h).trans (withCopOf_usable _ h0 h1)
    case cop0 =>
      obtain ⟨k, hk⟩ := tested h
      exact ⟨_, hk.trans (withCopOf_cop0_unusable k hop hu), takeException_enters (.coprocessorUnusable 0) _⟩
    case cop1 =>
      obtain ⟨k, hk⟩ := tested h
      exact ⟨_, hk.trans (withCopOf_cop1_unusable k hop hu), takeException_enters (.coprocessorUnusable 1) _⟩
    case cop2 =>
      split
      · rename_i hu; exact (runs h).trans (if_pos hu)
      · rename_i hu
        exact ⟨_, (runs h).trans (if_neg hu), takeException_enters (.coprocessorUnusable 2) _⟩
  all_goals rw [decodeC0op, h]; rfl

/-! ## Fetches that fail -/

theorem fetch_of_check_raises {s : State} {e : Exc} (h : s.checkAccess .fetch s.pc s.pc 4 4 = .raises e) :
    fetch s = .raises e := by
  unfold fetch
  rw [h]

theorem fetch_of_check_stops {s : State} {f : Fault} (h : s.checkAccess .fetch s.pc s.pc 4 4 = .stops f) :
    fetch s = .stops f := by
  unfold fetch
  rw [h]

/-- 20_memory.md R78: a fetch of a byte that a store has written, where there is anything. -/
theorem fetch_touched {s : State} (aligned : s.pc.toNat % 4 = 0) (allowed : segmentAllows s.mode s.pc = true)
    (present : ¬ MapGives s .fetch s.pc 4 .absent) (touched : ∃ k, k < 4 ∧ (s.pc.toNat + k) % 2 ^ 32 ∈ s.stored) :
    fetch s = .stops .fetchAfterStore := by
  have stored := (anyStored_iff s.stored s.pc 4).mpr touched
  unfold fetch
  cases class_ : accessClass s.memMap .fetch s.pc 4 with
  | ram => rw [checkAccess_ram aligned allowed class_]; exact if_pos stored
  | device => rw [checkAccess_device aligned allowed class_]; exact if_pos stored
  | absent => exact absurd class_ present

/-- 20_memory.md R70: a fetch from a device. -/
theorem fetch_device {s : State} (aligned : s.pc.toNat % 4 = 0) (allowed : segmentAllows s.mode s.pc = true)
    (device : MapGives s .fetch s.pc 4 .device) (untouched : ¬ ∃ k, k < 4 ∧ (s.pc.toNat + k) % 2 ^ 32 ∈ s.stored) :
    fetch s = .word ((s.deviceRead s.pc 4).setWidth 32) { s with draws := s.draws + 1 } := by
  unfold fetch
  rw [checkAccess_device aligned allowed device]
  exact if_neg (mt (anyStored_iff s.stored s.pc 4).mp untouched)

/-- Settles O13: the checks of a fetch, one after the other. -/
theorem fetchFailsAsStated : Obligations.FetchFailsAsStated := by
  unfold Obligations.FetchFailsAsStated
  intro s henv noInterrupt absent touched
  have runs := step_of_env_nil henv noInterrupt
  have raised {e : Exc} (h : s.checkAccess .fetch s.pc s.pc 4 4 = .raises e) : step s = raise e s :=
    runs.trans (runInstruction_of_raises (fetch_of_check_raises h))
  have stopped {f : Fault} (h : fetch s = .stops f) : step s = .fault f := runs.trans (runInstruction_of_stops h)
  refine ⟨fun bad => ?address, fun aligned reserved => ?reserved, fun aligned allowed =>
    ⟨fun nothing signalled => ?bus, fun nothing masked => ?masked, fun present => ?touched, fun present clean notRam => ?device⟩⟩
  case address =>
    exact ⟨_, raised (checkAccess_addressError .fetch s.pc 4 bad), takeException_enters (.addressErrorLoad s.pc) s⟩
  case reserved => exact stopped (fetch_of_check_stops (checkAccess_reserved .fetch s.pc 4 aligned reserved))
  case bus =>
    exact ⟨_, raised (checkAccess_busError aligned allowed nothing signalled), takeException_enters (.busErrorFetch s.pc) s⟩
  case masked => exact stopped (fetch_of_check_stops (checkAccess_masked aligned allowed nothing masked))
  case touched => exact fun written => stopped (fetch_touched aligned allowed present written)
  case device =>
    have device : MapGives s .fetch s.pc 4 .device := by
      cases class_ : accessClass s.memMap .fetch s.pc 4 with
      | ram => exact absurd class_ notRam
      | device => exact class_
      | absent => exact absurd class_ present
    have read := fetch_device aligned allowed device clean
    refine ⟨(s.deviceRead s.pc 4).setWidth 32, runs.trans ?_⟩
    cases decoded : decode ((s.deviceRead s.pc 4).setWidth 32) with
    | ok i => exact runInstruction_of_ok read decoded
    | error e => exact runInstruction_of_error read decoded

end Sys2Proof.Machine
end

section
/-! The invariant after reset and at the entry of a launched program (70_reset_and_hazards.md R583, log entries 1, 35); register 0;
the words of the spec's examples; PREF and SYNC. -/

namespace Sys2Proof.Machine

/-! ## Words under a mask -/

theorem and_mask_masked (w m : Word) : w &&& m &&& ~~~m = 0 := by
  rw [BitVec.and_assoc, BitVec.and_not_self]
  exact BitVec.and_zero

/-- A field of two bits that is not 11. -/
theorem field_ne_three {w : Word} {lo : Nat} (h : w.extractLsb' lo 2 ≠ 3) :
    (w.getLsbD (lo + 1) && w.getLsbD lo) = false := by
  rw [Bool.eq_false_iff]
  intro both
  obtain ⟨h1, h0⟩ := (Bool.and_eq_true _ _).mp both
  apply h
  apply BitVec.eq_of_getLsbD_eq
  intro k hk
  have : k = 0 ∨ k = 1 := by omega
  obtain rfl | rfl := this
  · rw [BitVec.getLsbD_extractLsb', Nat.add_zero, h0]; rfl
  · rw [BitVec.getLsbD_extractLsb', h1]; rfl

/-- And no more is left of it under a mask. -/
theorem field_ne_three_masked {w : Word} {lo : Nat} (m : Word) (h : w.extractLsb' lo 2 ≠ 3) :
    ((w &&& m).getLsbD (lo + 1) && (w &&& m).getLsbD lo) = false := by
  obtain h | h := Bool.and_eq_false_iff.mp (field_ne_three h)
  · rw [BitVec.getLsbD_and, h, Bool.false_and, Bool.false_and]
  · rw [BitVec.getLsbD_and (i := lo), h, Bool.false_and, Bool.and_false]

theorem breakpoints_of_unarmed {bpc : Word} (h : ∀ k ∈ [29, 30, 31], bpc.getLsbD k = false) : bpc &&& 0xE0000000 = 0 := by
  apply BitVec.eq_of_getLsbD_eq
  intro k hk
  have mask : (0xE0000000 : Word).getLsbD k = decide (k ∈ [29, 30, 31]) :=
    (by decide : ∀ j : Fin 32, (0xE0000000 : Word).getLsbD j = decide (j.val ∈ [29, 30, 31])) ⟨k, hk⟩
  rw [BitVec.getLsbD_and, mask]
  by_cases armed : k ∈ [29, 30, 31]
  · rw [h k armed]
    exact BitVec.getLsbD_zero.symm
  · rw [decide_eq_false armed, Bool.and_false]
    exact BitVec.getLsbD_zero.symm

/-! ## The registers that a launch names -/

theorem Inv.foldl_writeQ {s : State} (h : Inv s) (l : List (Reg × Quad)) :
    Inv (l.foldl (fun s r => s.writeQ r.1 r.2) s) := by
  induction l generalizing s with
  | nil => exact h
  | cons a l ih => exact ih (h.writeQ a.1 a.2)

theorem Inv.foldl_writeF {s : State} (h : Inv s) (l : List (Reg × Word)) :
    Inv (l.foldl (fun s r => s.writeF r.1 r.2) s) := by
  induction l generalizing s with
  | nil => exact h
  | cons a l ih => exact ih (h.writeF a.1 a.2)

/-- A register that holds `q`, or is written `q` by the list, and is written nothing else. -/
theorem readQ_foldl_writeQ {r : Reg} {q : Quad} (hr : r ≠ 0) (l : List (Reg × Quad)) (s : State)
    (given : s.readQ r = q ∨ (r, q) ∈ l) (only : ∀ p ∈ l, p.1 = r → p.2 = q) :
    (l.foldl (fun s r => s.writeQ r.1 r.2) s).readQ r = q := by
  induction l generalizing s with
  | nil => simpa using given
  | cons a l ih =>
    obtain ⟨onlyHead, onlyTail⟩ := List.forall_mem_cons.mp only
    refine ih (s.writeQ a.1 a.2) ?_ onlyTail
    rw [readQ_writeQ]
    by_cases ha : r = a.1
    · rw [if_pos ha, if_neg (ha ▸ hr)]
      exact .inl (onlyHead ha.symm)
    · rw [if_neg ha]
      exact given.imp_right fun mem => (List.mem_cons.mp mem).resolve_left fun e => ha (congrArg Prod.fst e)

theorem readF_foldl_writeF {r : Reg} {w : Word} (l : List (Reg × Word)) (s : State)
    (given : s.readF r = w ∨ (r, w) ∈ l) (only : ∀ p ∈ l, p.1 = r → p.2 = w) :
    (l.foldl (fun s r => s.writeF r.1 r.2) s).readF r = w := by
  induction l generalizing s with
  | nil => simpa using given
  | cons a l ih =>
    obtain ⟨onlyHead, onlyTail⟩ := List.forall_mem_cons.mp only
    refine ih (s.writeF a.1 a.2) ?_ onlyTail
    rw [readF_writeF]
    by_cases ha : r = a.1
    · rw [if_pos ha]
      exact .inl (onlyHead ha.symm)
    · rw [if_neg ha]
      exact given.imp_right fun mem => (List.mem_cons.mp mem).resolve_left fun e => ha (congrArg Prod.fst e)

/-- The floating-point registers of a launch are written after the general ones, which they leave alone. -/
theorem LaunchState.readQ_state (l : LaunchState) (r : Reg) :
    l.state.readQ r = (l.gpr.foldl (fun s r => s.writeQ r.1 r.2) l.bare).readQ r := by
  obtain ⟨f, h⟩ := Machine.foldl_writeF l.fpr (l.gpr.foldl (fun s r => s.writeQ r.1 r.2) l.bare)
  exact readQ_congr (congrArg State.gpr h) r

/-! ## The invariant -/

theorem inv_reset : Inv State.reset where
  mem := rfl
  stored := rfl
  zero := rfl
  status := by decide
  ksu := by decide
  cause := by decide
  coprocessor := by decide
  config := by decide
  fcr31 := by decide
  breakpoints := by decide
  counters := by decide
  sequence := fun _ => rfl

theorem LaunchState.inv_bare {l : LaunchState} (mem : Memory.wf l.memory = true) (ksu : l.cop0.status.extractLsb' 3 2 ≠ 3)
    (ce : l.cop0.cause.extractLsb' 28 2 ≠ 3) (unarmed : ∀ k ∈ [29, 30, 31], l.dbg.bpc.getLsbD k = false)
    (stopped : l.perf.pccr.getLsbD 31 = false) : Inv l.bare where
  mem := mem
  stored := rfl
  zero := rfl
  status := and_mask_masked _ _
  ksu := field_ne_three_masked statusMask ksu
  cause := and_mask_masked _ _
  coprocessor := field_ne_three_masked causeMask ce
  config := and_mask_masked _ _
  fcr31 := fcr31View_view _
  breakpoints := breakpoints_of_unarmed unarmed
  counters := stopped
  sequence := fun _ => rfl

/-- Settles O14: the invariant at `bare`, kept by the writes of the launch; each register that the launch names. -/
theorem invariantHoldsAtReset : Obligations.InvariantHoldsAtReset := by
  unfold Obligations.InvariantHoldsAtReset
  refine ⟨inv_reset, fun l => ⟨fun mem ksu ce unarmed stopped => ?inv, l.state_pc, l.state_npc, l.state_bd, l.state_mem,
    fun r q hr given only => ?gpr, fun r w given only => ?fpr, l.state_hi, l.state_lo, l.state_saBytes, ?acc, l.state_fcr31,
    l.state_dbg, l.state_perf, l.state_cop0, fun default => ?default⟩⟩
  case inv => exact ((LaunchState.inv_bare mem ksu ce unarmed stopped).foldl_writeQ l.gpr).foldl_writeF l.fpr
  case gpr => rw [l.readQ_state]; exact readQ_foldl_writeQ hr l.gpr l.bare (.inr given) only
  case fpr => exact readF_foldl_writeF l.fpr _ (.inr given) only
  case acc => obtain ⟨g, f, h⟩ := l.state_eq; rw [h]; rfl
  case default =>
    have bit (k : Nat) : l.state.statusBit k = (launchStatus &&& statusMask).getLsbD k := by
      rw [State.statusBit, l.state_cop0, LaunchState.cop0At, default]
    have mode : l.state.mode = .kernel := by
      unfold State.mode
      rw [bit, bit, bit, bit]
      rfl
    refine ⟨mode, ?_, (bit 29).trans (by decide), (bit 22).trans (by decide), (bit 0).trans (by decide),
      (bit 16).trans (by decide)⟩
    rw [State.cop0Usable, mode]
    rfl

/-! ## Register 0 (10_state.md R21) -/

theorem writeQ_zero (s : State) (q : Quad) : s.writeQ 0 q = s := rfl

/-- Settles O2: a read of register 0 is 0 at each width, and every write of it is one of 128 bits. -/
theorem registerZeroReadsZeroAndDiscardsWrites : Obligations.RegisterZeroReadsZeroAndDiscardsWrites := by
  unfold Obligations.RegisterZeroReadsZeroAndDiscardsWrites
  intro s q d w
  exact ⟨readQ_zero s, readD_zero s, readW_zero s, writeQ_zero s q, writeQ_zero s _, writeQ_zero s _⟩

/-! ## The example words -/

theorem decode_of_encode_eq {i : Instr} {w : Word} (h : encode i = w) (hi : i.wellFormed = true) : decode w = .ok i :=
  h ▸ decode_encode i hi

/-- Settles O6: each word is the encoding of its instruction. -/
theorem exampleWordsDecode : Obligations.ExampleWordsDecode := by
  unfold Obligations.ExampleWordsDecode
  refine ⟨?_, ?_, ?_, ?_, ?_, ?_, ?_, ?_, ?_, ?_, ?_, ?_, ?_, ?_, ?_, ?_, ?_, ?_⟩
  all_goals exact decode_of_encode_eq (by decide) rfl

/-! ## PREF and SYNC (45_load_store.md R290, R291) -/

/-- An instruction that does nothing but let control go on. -/
theorem onlyAdvances_of_next {i : Instr} {s : State} (h : exec i s = .next s.advance) : OnlyAdvances i s :=
  ⟨s.advance, h, trivial, (Frame.refl s _).advance, sequenced_advance rfl⟩

/-- Settles O34: both answer the state with control moved on. -/
theorem prefAndSyncOnlyAdvance : Obligations.PrefAndSyncOnlyAdvance := by
  unfold Obligations.PrefAndSyncOnlyAdvance
  intro s base hint stype offset
  exact ⟨onlyAdvances_of_next rfl, onlyAdvances_of_next rfl⟩

end Sys2Proof.Machine
end

section
/-! Integer arithmetic, logic, comparison, conditional moves and scalar shifts (41_integer_alu.md, 42_shifts.md). -/

namespace Sys2Proof.Machine

/-! ## Completion -/

theorem CompletesIn.imp {i : Instr} {s : State} {c : View → Prop} {p q : State → Prop} (h : CompletesIn i s c p)
    (hpq : ∀ t, p t → q t) : CompletesIn i s c q := by
  obtain ⟨t, ht, hp, frame, seq⟩ := h
  exact ⟨t, ht, hpq t hp, frame, seq⟩

theorem Completes.imp {i : Instr} {s : State} {c : List View} {p q : State → Prop} (h : Completes i s c p)
    (hpq : ∀ t, p t → q t) : Completes i s c q := CompletesIn.imp h hpq

theorem getLsbD_afterWrite {n : Nat} (rd : Reg) (v : BitVec n) (k : Nat) :
    (afterWrite rd v).getLsbD k = (decide (rd ≠ 0) && v.getLsbD k) := by
  unfold afterWrite
  by_cases h : rd = 0
  · rw [if_pos h, decide_eq_false (not_not.mpr h), Bool.false_and]
    exact BitVec.getLsbD_zero
  · rw [if_neg h, decide_eq_true h, Bool.true_and]

/-- What `resultD` does, bit by bit. -/
theorem writesLowBits_of_resultD {i : Instr} {s : State} {rd : Reg} {v : Dword} {f : Nat → Bool}
    (h : exec i s = resultD s rd v) (hf : ∀ k, k < 64 → v.getLsbD k = f k) : WritesLowBits i s rd f := by
  refine Completes.imp (writesLow_of_resultD h rfl) fun t ht k hk => ?_
  rw [ht, getLsbD_afterWrite, hf k hk]

/-! ## Bounds, and immediates in numbers -/

theorem word_bounds (w : Word) : -2 ^ 31 ≤ w.toInt ∧ w.toInt < 2 ^ 31 := ⟨BitVec.le_toInt w, BitVec.toInt_lt⟩

theorem dword_bounds (d : Dword) : -2 ^ 63 ≤ d.toInt ∧ d.toInt < 2 ^ 63 := ⟨BitVec.le_toInt d, BitVec.toInt_lt⟩

theorem toInt_signImmW (imm : BitVec 16) : (signImmW imm).toInt = imm.toInt := toInt_signExtend_le imm (by decide)

theorem toInt_signImm (imm : BitVec 16) : (signImm imm).toInt = imm.toInt := toInt_signExtend_le imm (by decide)

/-- 41_integer_alu.md R193: the immediate is sign-extended also where the comparison is unsigned. -/
theorem toNat_signImm (imm : BitVec 16) : ((signImm imm).toNat : Int) = imm.toInt % 2 ^ 64 := by
  rw [toNat_eq_toInt_emod, toInt_signImm]

theorem getLsbD_zeroImm (imm : BitVec 16) (k : Nat) (hk : k < 64) :
    (zeroImm imm).getLsbD k = (decide (k < 16) && imm.getLsbD k) := by
  rw [zeroImm, BitVec.getLsbD_setWidth, decide_eq_true hk, Bool.true_and]
  by_cases h : k < 16
  · rw [decide_eq_true h, Bool.true_and]
  · rw [decide_eq_false h, Bool.false_and, BitVec.getLsbD_of_ge _ _ (by omega)]

/-! ## Sums that wrap -/

theorem sext64_add (x y : Word) : sext64 (x + y) = signedWord (x.toInt + y.toInt) := by
  rw [add_eq_ofInt, sext64_ofInt]

theorem sext64_sub (x y : Word) : sext64 (x - y) = signedWord (x.toInt - y.toInt) := by
  rw [sub_eq_ofInt, sext64_ofInt]

/-- Settles O17: each result is the image of the exact sum or difference. -/
theorem uncheckedSumsWrap : Obligations.UncheckedSumsWrap := by
  unfold Obligations.UncheckedSumsWrap
  intro s rs rt rd imm
  refine ⟨?addu, ?subu, ?addiu, ?daddu, ?dsubu, ?daddiu⟩
  case addu => exact writesLow_of_resultW rfl (sext64_add _ _)
  case subu => exact writesLow_of_resultW rfl (sext64_sub _ _)
  case addiu => exact writesLow_of_resultW rfl ((sext64_add _ _).trans (by rw [toInt_signImmW]))
  case daddu => exact writesLow_of_resultD rfl (add_eq_ofInt _ _)
  case dsubu => exact writesLow_of_resultD rfl (sub_eq_ofInt _ _)
  case daddiu => exact writesLow_of_resultD rfl ((add_eq_ofInt _ _).trans (by rw [toInt_signImm]))

/-! ## Sums that raise on overflow (40_command_table.md R131) -/

theorem signedWord_of_fits {v : Int} (h : -2 ^ 31 ≤ v ∧ v < 2 ^ 31) : signedWord v = BitVec.ofInt 64 v := by
  rw [signedWord, Int.bmod_def]
  congr 1
  split <;> omega

/-- A number of 33 bits fits 32 bits when its two top bits agree. -/
theorem topBits_differ_33 {v : Int} (h : -2 ^ 32 ≤ v ∧ v < 2 ^ 32) :
    ((BitVec.ofInt 33 v).getLsbD 32 != (BitVec.ofInt 33 v).getLsbD 31) = !decide (-2 ^ 31 ≤ v ∧ v < 2 ^ 31) := by
  rw [Bool.eq_iff_iff, bne_iff_ne, Bool.not_eq_true', decide_eq_false_iff_not, ne_eq, not_iff_not, Bool.eq_iff_iff]
  simp only [BitVec.getLsbD, Nat.testBit_eq_decide_div_mod_eq, BitVec.toNat_ofInt, decide_eq_true_eq]
  push_cast
  omega

/-- A number of 65 bits fits 64 bits when its two top bits agree. -/
theorem topBits_differ_65 {v : Int} (h : -2 ^ 64 ≤ v ∧ v < 2 ^ 64) :
    ((BitVec.ofInt 65 v).getLsbD 64 != (BitVec.ofInt 65 v).getLsbD 63) = !decide (-2 ^ 63 ≤ v ∧ v < 2 ^ 63) := by
  rw [Bool.eq_iff_iff, bne_iff_ne, Bool.not_eq_true', decide_eq_false_iff_not, ne_eq, not_iff_not, Bool.eq_iff_iff]
  simp only [BitVec.getLsbD, Nat.testBit_eq_decide_div_mod_eq, BitVec.toNat_ofInt, decide_eq_true_eq]
  push_cast
  omega

theorem addOverflowW_eq (a b : Word) :
    addOverflowW a b = !decide (-2 ^ 31 ≤ a.toInt + b.toInt ∧ a.toInt + b.toInt < 2 ^ 31) := by
  have ha := word_bounds a
  have hb := word_bounds b
  unfold addOverflowW
  rw [add_eq_ofInt, toInt_signExtend_le a (by decide), toInt_signExtend_le b (by decide)]
  exact topBits_differ_33 (by omega)

theorem subOverflowW_eq (a b : Word) :
    subOverflowW a b = !decide (-2 ^ 31 ≤ a.toInt - b.toInt ∧ a.toInt - b.toInt < 2 ^ 31) := by
  have ha := word_bounds a
  have hb := word_bounds b
  unfold subOverflowW
  rw [sub_eq_ofInt, toInt_signExtend_le a (by decide), toInt_signExtend_le b (by decide)]
  exact topBits_differ_33 (by omega)

theorem addOverflowD_eq (a b : Dword) :
    addOverflowD a b = !decide (-2 ^ 63 ≤ a.toInt + b.toInt ∧ a.toInt + b.toInt < 2 ^ 63) := by
  have ha := dword_bounds a
  have hb := dword_bounds b
  unfold addOverflowD
  rw [add_eq_ofInt, toInt_signExtend_le a (by decide), toInt_signExtend_le b (by decide)]
  exact topBits_differ_65 (by omega)

theorem subOverflowD_eq (a b : Dword) :
    subOverflowD a b = !decide (-2 ^ 63 ≤ a.toInt - b.toInt ∧ a.toInt - b.toInt < 2 ^ 63) := by
  have ha := dword_bounds a
  have hb := dword_bounds b
  unfold subOverflowD
  rw [sub_eq_ofInt, toInt_signExtend_le a (by decide), toInt_signExtend_le b (by decide)]
  exact topBits_differ_65 (by omega)

/-- A checked word operation whose exact result is `v`. -/
theorem writes_or_raises_word {i : Instr} {s : State} {overflow : Bool} {r : Reg} {w : Word} {v : Int}
    (h : exec i s = resultWChecked s overflow r w) (ho : overflow = !decide (-2 ^ 31 ≤ v ∧ v < 2 ^ 31))
    (hw : sext64 w = signedWord v) :
    if -2 ^ 31 ≤ v ∧ v < 2 ^ 31 then WritesLow i s r (BitVec.ofInt 64 v) else Raises i s 12 := by
  unfold resultWChecked at h
  split
  · rename_i fits
    rw [ho, decide_eq_true fits, Bool.not_true, if_neg (by decide)] at h
    exact writesLow_of_resultW h (hw.trans (signedWord_of_fits fits))
  · rename_i fits
    rw [ho, decide_eq_false fits, Bool.not_false, if_pos rfl] at h
    exact raises_of_raise .integerOverflow h rfl

/-- A checked doubleword operation whose exact result is `v`. -/
theorem writes_or_raises_dword {i : Instr} {s : State} {overflow : Bool} {r : Reg} {d : Dword} {v : Int}
    (h : exec i s = resultDChecked s overflow r d) (ho : overflow = !decide (-2 ^ 63 ≤ v ∧ v < 2 ^ 63))
    (hd : d = BitVec.ofInt 64 v) :
    if -2 ^ 63 ≤ v ∧ v < 2 ^ 63 then WritesLow i s r (BitVec.ofInt 64 v) else Raises i s 12 := by
  unfold resultDChecked at h
  split
  · rename_i fits
    rw [ho, decide_eq_true fits, Bool.not_true, if_neg (by decide)] at h
    exact writesLow_of_resultD h hd
  · rename_i fits
    rw [ho, decide_eq_false fits, Bool.not_false, if_pos rfl] at h
    exact raises_of_raise .integerOverflow h rfl

/-- Settles O18: overflow is that the exact result does not fit. -/
theorem checkedSumsWriteOrRaise : Obligations.CheckedSumsWriteOrRaise := by
  unfold Obligations.CheckedSumsWriteOrRaise
  intro s rs rt rd imm word dword
  refine ⟨?add, ?addi, ?sub, ?dadd, ?daddi, ?dsub⟩
  case add => exact writes_or_raises_word rfl (addOverflowW_eq _ _) (sext64_add _ _)
  case addi =>
    rw [← toInt_signImmW]
    exact writes_or_raises_word rfl (addOverflowW_eq _ _) (sext64_add _ _)
  case sub => exact writes_or_raises_word rfl (subOverflowW_eq _ _) (sext64_sub _ _)
  case dadd => exact writes_or_raises_dword rfl (addOverflowD_eq _ _) (add_eq_ofInt _ _)
  case daddi =>
    rw [← toInt_signImm]
    exact writes_or_raises_dword rfl (addOverflowD_eq _ _) (add_eq_ofInt _ _)
  case dsub => exact writes_or_raises_dword rfl (subOverflowD_eq _ _) (sub_eq_ofInt _ _)

/-! ## Logic -/

/-- 40_command_table.md R162: the immediate in the upper half of a word. -/
theorem sext64_lui (imm : BitVec 16) : sext64 (imm ++ 0#16) = signedWord (imm.toNat * 2 ^ 16) := by
  have h : imm ++ 0#16 = BitVec.ofNat 32 (imm.toNat * 2 ^ 16) := by
    apply BitVec.eq_of_toNat_eq
    rw [BitVec.toNat_append, BitVec.toNat_ofNat, Nat.shiftLeft_eq]
    have := imm.isLt
    simp
    omega
  rw [h, sext64_ofNat]
  push_cast
  rfl

/-- Settles O19: the bits of each operation, and LUI in numbers. -/
theorem logicIsBitwise : Obligations.LogicIsBitwise := by
  unfold Obligations.LogicIsBitwise
  intro s rs rt rd imm a b c
  refine ⟨?and, ?or, ?xor, ?nor, ?andi, ?ori, ?xori, writesLow_of_resultW rfl (sext64_lui imm)⟩
  case and => exact writesLowBits_of_resultD rfl fun k _ => BitVec.getLsbD_and
  case or => exact writesLowBits_of_resultD rfl fun k _ => BitVec.getLsbD_or
  case xor => exact writesLowBits_of_resultD rfl fun k _ => BitVec.getLsbD_xor
  case nor =>
    refine writesLowBits_of_resultD rfl fun k hk => ?_
    rw [BitVec.getLsbD_not, BitVec.getLsbD_or, decide_eq_true hk, Bool.true_and]
  case andi => exact writesLowBits_of_resultD rfl fun k hk => BitVec.getLsbD_and.trans (by rw [getLsbD_zeroImm imm k hk])
  case ori => exact writesLowBits_of_resultD rfl fun k hk => BitVec.getLsbD_or.trans (by rw [getLsbD_zeroImm imm k hk])
  case xori => exact writesLowBits_of_resultD rfl fun k hk => BitVec.getLsbD_xor.trans (by rw [getLsbD_zeroImm imm k hk])

/-! ## Comparisons and conditional moves -/

theorem eq_zero_iff_toNat (d : Dword) : d = 0 ↔ d.toNat = 0 :=
  ⟨fun h => congrArg BitVec.toNat h, fun h => BitVec.eq_of_toNat_eq h⟩

theorem ult_iff_toNat_lt (x y : Dword) : x.ult y = true ↔ x.toNat < y.toNat := by
  rw [BitVec.ult_iff_lt, BitVec.lt_def]

theorem ult_signImm_iff (x : Dword) (imm : BitVec 16) :
    x.ult (signImm imm) = true ↔ (x.toNat : Int) < imm.toInt % 2 ^ 64 := by
  rw [ult_iff_toNat_lt, ← toNat_signImm, Int.ofNat_lt]

/-- Settles O20: each comparison in numbers, each move by whether the tested register is 0. -/
theorem comparisonsAndConditionalMoves : Obligations.ComparisonsAndConditionalMoves := by
  unfold Obligations.ComparisonsAndConditionalMoves
  intro s rs rt rd imm
  refine ⟨?slt, ?slti, ?sltu, ?sltiu, ?movn, ?movz⟩
  case slt => exact writesLow_of_resultD rfl (by simp only [BitVec.slt_iff_toInt_lt])
  case slti => exact writesLow_of_resultD rfl (by simp only [BitVec.slt_iff_toInt_lt, toInt_signImm])
  case sltu => exact writesLow_of_resultD rfl (by simp only [ult_iff_toNat_lt])
  case sltiu => exact writesLow_of_resultD rfl (by simp only [ult_signImm_iff])
  case movn =>
    split
    · rename_i h; exact onlyAdvances_of_next (if_pos ((eq_zero_iff_toNat _).mpr h))
    · rename_i h; exact writesLow_of_resultD (if_neg (mt (eq_zero_iff_toNat _).mp h)) rfl
  case movz =>
    split
    · rename_i h; exact writesLow_of_resultD (if_pos ((eq_zero_iff_toNat _).mpr h)) rfl
    · rename_i h; exact onlyAdvances_of_next (if_neg (mt (eq_zero_iff_toNat _).mp h))

/-! ## Shifts -/

theorem shiftAmount5_eq (d : Dword) : shiftAmount5 d = d.toNat % 32 := by
  rw [shiftAmount5, BitVec.extractLsb'_toNat, Nat.shiftRight_zero]

theorem shiftAmount6_eq (d : Dword) : shiftAmount6 d = d.toNat % 64 := by
  rw [shiftAmount6, BitVec.extractLsb'_toNat, Nat.shiftRight_zero]

theorem sext64_shiftLeft (w : Word) (k : Nat) : sext64 (w <<< k) = signedWord (w.toNat * 2 ^ k) := by
  rw [shiftLeft_eq_ofNat, sext64_ofNat]
  push_cast
  rfl

theorem sext64_ushiftRight (w : Word) (k : Nat) : sext64 (w >>> k) = signedWord (w.toNat / 2 ^ k : Nat) := by
  rw [ushiftRight_eq_ofNat, sext64_ofNat]

theorem sext64_sshiftRight (w : Word) (k : Nat) : sext64 (w.sshiftRight k) = signedWord (w.toInt / 2 ^ k) := by
  rw [sshiftRight_eq_ofInt, sext64_ofInt]

/-- Settles O21: each shift scales, the amount of a variable one being the register modulo 32. -/
theorem wordShiftsScale : Obligations.WordShiftsScale := by
  unfold Obligations.WordShiftsScale
  intro s rs rt rd sa amount
  have variable_ : shiftAmount5 (s.readD rs) = amount := shiftAmount5_eq _
  refine ⟨?sll, ?srl, ?sra, ?sllv, ?srlv, ?srav⟩
  case sll => exact writesLow_of_resultW rfl (sext64_shiftLeft _ _)
  case srl => exact writesLow_of_resultW rfl (sext64_ushiftRight _ _)
  case sra => exact writesLow_of_resultW rfl (sext64_sshiftRight _ _)
  case sllv => exact writesLow_of_resultW rfl (variable_ ▸ sext64_shiftLeft _ _)
  case srlv => exact writesLow_of_resultW rfl (variable_ ▸ sext64_ushiftRight _ _)
  case srav => exact writesLow_of_resultW rfl (variable_ ▸ sext64_sshiftRight _ _)

/-- Settles O22: the same on 64 bits, the amount of a variable one being the register modulo 64. -/
theorem doublewordShiftsScale : Obligations.DoublewordShiftsScale := by
  unfold Obligations.DoublewordShiftsScale
  intro s rs rt rd sa amount
  have variable_ : shiftAmount6 (s.readD rs) = amount := shiftAmount6_eq _
  refine ⟨?dsll, ?dsrl, ?dsra, ?dsll32, ?dsrl32, ?dsra32, ?dsllv, ?dsrlv, ?dsrav⟩
  case dsll | dsll32 => exact writesLow_of_resultD rfl (shiftLeft_eq_ofNat _ _)
  case dsrl | dsrl32 => exact writesLow_of_resultD rfl (ushiftRight_eq_ofNat _ _)
  case dsra | dsra32 => exact writesLow_of_resultD rfl (sshiftRight_eq_ofInt _ _)
  case dsllv => exact writesLow_of_resultD rfl (variable_ ▸ shiftLeft_eq_ofNat _ _)
  case dsrlv => exact writesLow_of_resultD rfl (variable_ ▸ ushiftRight_eq_ofNat _ _)
  case dsrav => exact writesLow_of_resultD rfl (variable_ ▸ sshiftRight_eq_ofInt _ _)

end Sys2Proof.Machine
end

section
/-! PROOF. Multiplication and division into HI and LO (40_command_table.md R137, R158; 43_muldiv_hilo.md). -/

namespace Sys2Proof.Machine

/-! ## Products -/

theorem sext64_mul (a b : Word) : sext64 a * sext64 b = BitVec.ofInt 64 (a.toInt * b.toInt) := by
  rw [sext64_eq_ofInt, sext64_eq_ofInt, BitVec.ofInt_mul]

theorem zext64_mul (a b : Word) : zext64 a * zext64 b = BitVec.ofInt 64 (a.toNat * b.toNat) := by
  rw [zext64_eq_ofInt, zext64_eq_ofInt, BitVec.ofInt_mul]

/-- The accumulator HI.W[k] ‖ LO.W[k], as a number modulo 2^64. -/
theorem accumulator_eq_ofInt (s : State) (k : Nat) : s.accumulator k = BitVec.ofInt 64 (accumulated s k) :=
  joinW_eq_ofInt _ _

theorem sext64_lowW_ofInt (p : Int) : sext64 (lowW (BitVec.ofInt 64 p)) = signedWord p := by
  rw [lowW_ofInt, sext64_ofInt]

theorem sext64_highW_ofInt (p : Int) : sext64 (highW (BitVec.ofInt 64 p)) = signedWord (p / 2 ^ 32) := by
  rw [highW_ofInt, sext64_ofInt]

theorem readD_writeD_same (s : State) (r : Reg) (v : Dword) : (s.writeD r v).readD r = afterWrite r v := by
  rw [readD_writeD, if_pos rfl]
  rfl

/-- Two updates, one after the other. -/
theorem Frame.seq {s t u : State} {a b c : List View} (h : Frame s t (· ∈ a)) (h' : Frame t u (· ∈ b)) (ha : a ⊆ c)
    (hb : b ⊆ c) : Frame s u (· ∈ c) :=
  (h.mono fun _ hv => ha hv).trans (h'.mono fun _ hv => hb hv)

/-- What `resultMul` does: pipeline 0. -/
theorem multiplies_of_resultMul {i : Instr} {s : State} {rd : Reg} {d : Dword} {p : Int} (h : exec i s = resultMul s rd d)
    (hd : d = BitVec.ofInt 64 p) : Multiplies i s false rd p := by
  subst hd
  have frame := (frame_writeHiLo s (sext64 (highW (BitVec.ofInt 64 p))) (sext64 (lowW (BitVec.ofInt 64 p)))).seq
    (frame_writeD _ rd (sext64 (lowW (BitVec.ofInt 64 p)))) (c := [.gprLow rd, .hiLow, .loLow]) (by simp) (by simp)
  refine ⟨_, h, ⟨?lo, ?hi, ?reg⟩, frame.advance, sequenced_advance rfl⟩
  case lo => exact (lowD_withLowD _ _).trans (sext64_lowW_ofInt p)
  case hi => exact (lowD_withLowD _ _).trans (sext64_highW_ofInt p)
  case reg => rw [readD_advance, State.writeW, readD_writeD_same, sext64_lowW_ofInt]

/-- What `resultMul1` does: pipeline 1. -/
theorem multiplies_of_resultMul1 {i : Instr} {s : State} {rd : Reg} {d : Dword} {p : Int} (h : exec i s = resultMul1 s rd d)
    (hd : d = BitVec.ofInt 64 p) : Multiplies i s true rd p := by
  subst hd
  have frame := (frame_writeHiLo1 s (sext64 (highW (BitVec.ofInt 64 p))) (sext64 (lowW (BitVec.ofInt 64 p)))).seq
    (frame_writeD _ rd (sext64 (lowW (BitVec.ofInt 64 p)))) (c := [.gprLow rd, .hiHigh, .loHigh]) (by simp) (by simp)
  refine ⟨_, h, ⟨?lo, ?hi, ?reg⟩, frame.advance, sequenced_advance rfl⟩
  case lo => exact (highD_withHighD _ _).trans (sext64_lowW_ofInt p)
  case hi => exact (highD_withHighD _ _).trans (sext64_highW_ofInt p)
  case reg => rw [readD_advance, State.writeW, readD_writeD_same, sext64_lowW_ofInt]

theorem accumulator_add_sext64_mul (s : State) (k : Nat) (a b : Word) :
    s.accumulator k + sext64 a * sext64 b = BitVec.ofInt 64 (accumulated s k + a.toInt * b.toInt) := by
  rw [accumulator_eq_ofInt, sext64_mul, BitVec.ofInt_add]

theorem accumulator_add_zext64_mul (s : State) (k : Nat) (a b : Word) :
    s.accumulator k + zext64 a * zext64 b = BitVec.ofInt 64 (accumulated s k + a.toNat * b.toNat) := by
  rw [accumulator_eq_ofInt, zext64_mul, BitVec.ofInt_add]

/-- Settles O23: products modulo 2^64 and their two sign-extended halves. -/
theorem multipliesFillHiAndLo : Obligations.MultipliesFillHiAndLo := by
  unfold Obligations.MultipliesFillHiAndLo
  intro s rs rt rd
  exact ⟨multiplies_of_resultMul rfl (sext64_mul _ _), multiplies_of_resultMul rfl (zext64_mul _ _),
    multiplies_of_resultMul1 rfl (sext64_mul _ _), multiplies_of_resultMul1 rfl (zext64_mul _ _),
    multiplies_of_resultMul rfl (accumulator_add_sext64_mul _ _ _ _),
    multiplies_of_resultMul rfl (accumulator_add_zext64_mul _ _ _ _),
    multiplies_of_resultMul1 rfl (accumulator_add_sext64_mul _ _ _ _),
    multiplies_of_resultMul1 rfl (accumulator_add_zext64_mul _ _ _ _)⟩

/-! ## Quotients -/

/-- What `resultDiv` does: pipeline 0. -/
theorem divides_of_resultDiv {i : Instr} {s : State} {qr : Int × Int} (h : exec i s = resultDiv s qr) :
    Divides i s false qr.1 qr.2 :=
  ⟨_, h, ⟨(lowD_withLowD _ _).trans (sext64_ofInt _), (lowD_withLowD _ _).trans (sext64_ofInt _)⟩,
    (frame_writeHiLo s _ _).advance, sequenced_advance rfl⟩

/-- What `resultDiv1` does: pipeline 1. -/
theorem divides_of_resultDiv1 {i : Instr} {s : State} {qr : Int × Int} (h : exec i s = resultDiv1 s qr) :
    Divides i s true qr.1 qr.2 :=
  ⟨_, h, ⟨(highD_withHighD _ _).trans (sext64_ofInt _), (highD_withHighD _ _).trans (sext64_ofInt _)⟩,
    (frame_writeHiLo1 s _ _).advance, sequenced_advance rfl⟩

theorem toInt_eq_zero_iff {n : Nat} (d : BitVec n) : d.toInt = 0 ↔ d = 0 := by
  rw [← BitVec.toInt_inj, BitVec.ofNat_eq_ofNat, BitVec.toInt_zero]

theorem toInt_eq_minWord_iff (d : Word) : d.toInt = -2 ^ 31 ↔ d = 0x80000000 := by
  rw [← BitVec.toInt_inj]
  rfl

theorem toInt_eq_neg_one_iff (d : Word) : d.toInt = -1 ↔ d = 0xFFFFFFFF := by
  rw [← BitVec.toInt_inj]
  rfl

/-- The values of the signed division, in the order of its cases. -/
theorem divSigned_eq (n d : Word) : divSigned n d =
    if d.toInt = 0 then Config.divCorner .divByZero n.toInt d.toInt
    else if n.toInt = -2 ^ 31 ∧ d.toInt = -1 then Config.divCorner .divOverflow n.toInt d.toInt
    else (n.toInt.tdiv d.toInt, n.toInt.tmod d.toInt) := by
  simp only [divSigned, toInt_eq_zero_iff, toInt_eq_minWord_iff, toInt_eq_neg_one_iff]

/-- The values of the unsigned division. -/
theorem divUnsigned_eq (n d : Word) : divUnsigned n d =
    if d.toNat = 0 then Config.divCorner .divuByZero n.toNat d.toNat
    else ((n.toNat / d.toNat : Nat), (n.toNat % d.toNat : Nat)) := by
  simp only [divUnsigned, ← BitVec.toNat_inj, BitVec.ofNat_eq_ofNat, BitVec.toNat_ofNat, Nat.zero_mod]

/-- The remainder of a division rounded toward zero has the sign of the dividend. -/
theorem tmod_eq_zero_or_sign (n d : Int) : n.tmod d = 0 ∨ (n.tmod d).sign = n.sign := by
  rw [Int.sign_tmod, or_iff_not_imp_left]
  exact fun h => if_neg fun dvd => h (Int.tmod_eq_zero_of_dvd dvd)

/-- Exact division rounded toward zero. -/
theorem tdiv_tmod_spec (n : Int) {d : Int} (hd : d ≠ 0) :
    n = n.tdiv d * d + n.tmod d ∧ (n.tmod d).natAbs < d.natAbs ∧ (n.tmod d = 0 ∨ (n.tmod d).sign = n.sign) := by
  refine ⟨(Int.tdiv_mul_add_tmod n d).symm, ?_, tmod_eq_zero_or_sign n d⟩
  rw [Int.natAbs_tmod]
  exact Nat.mod_lt _ (Int.natAbs_pos.mpr hd)

section
variable {i : Instr} {s : State} {upper : Bool} {x y : Word}

/-- An instruction that writes what `divSigned` gives. -/
theorem divides_signed (h : Divides i s upper (divSigned x y).1 (divSigned x y).2) :
    if y.toInt = 0 then
      Divides i s upper (Config.divCorner .divByZero x.toInt y.toInt).1 (Config.divCorner .divByZero x.toInt y.toInt).2
    else if x.toInt = -2 ^ 31 ∧ y.toInt = -1 then
      Divides i s upper (Config.divCorner .divOverflow x.toInt y.toInt).1 (Config.divCorner .divOverflow x.toInt y.toInt).2
    else ∃ q r : Int, x.toInt = q * y.toInt + r ∧ r.natAbs < y.toInt.natAbs ∧ (r = 0 ∨ r.sign = x.toInt.sign) ∧
      Divides i s upper q r := by
  rw [divSigned_eq] at h
  by_cases zero : y.toInt = 0
  · rw [if_pos zero] at h ⊢
    exact h
  · rw [if_neg zero] at h ⊢
    by_cases overflow : x.toInt = -2 ^ 31 ∧ y.toInt = -1
    · rw [if_pos overflow] at h ⊢
      exact h
    · rw [if_neg overflow] at h ⊢
      obtain ⟨sum, small, sign⟩ := tdiv_tmod_spec x.toInt zero
      exact ⟨_, _, sum, small, sign, h⟩

/-- An instruction that writes what `divUnsigned` gives. -/
theorem divides_unsigned (h : Divides i s upper (divUnsigned x y).1 (divUnsigned x y).2) :
    if y.toNat = 0 then
      Divides i s upper (Config.divCorner .divuByZero x.toNat y.toNat).1 (Config.divCorner .divuByZero x.toNat y.toNat).2
    else ∃ q r : Nat, x.toNat = q * y.toNat + r ∧ r < y.toNat ∧ Divides i s upper q r := by
  rw [divUnsigned_eq] at h
  by_cases zero : y.toNat = 0
  · rw [if_pos zero] at h ⊢
    exact h
  · rw [if_neg zero] at h ⊢
    exact ⟨_, _, (Nat.div_add_mod' _ _).symm, Nat.mod_lt _ (Nat.pos_of_ne_zero zero), h⟩
end

/-- Settles O24: the two corners are those of `divSigned` and `divUnsigned`, and else the division is exact. -/
theorem dividesRoundTowardZero : Obligations.DividesRoundTowardZero := by
  unfold Obligations.DividesRoundTowardZero
  intro s rs rt
  exact ⟨divides_signed (divides_of_resultDiv rfl), divides_signed (divides_of_resultDiv1 rfl),
    divides_unsigned (divides_of_resultDiv rfl), divides_unsigned (divides_of_resultDiv1 rfl)⟩

end Sys2Proof.Machine
end

section
/-! PROOF. Branches and jumps (44_branch_jump.md, 40_command_table.md, 10_state.md R27, R29). -/

namespace Sys2Proof.Machine

/-! ## The shared operations -/

/-- A change of the sequencing alone. -/
def State.sequenceTo (s : State) (pc npc : Addr) (bd : Bool) : State := { s with pc := pc, npc := npc, bd := bd }

theorem Frame.sequenceTo {s t : State} {c : View → Prop} (h : Frame s t c) (pc npc : Addr) (bd : Bool) :
    Frame s (t.sequenceTo pc npc bd) c :=
  ⟨fun v hv => (by cases v <;> rfl : View.get (t.sequenceTo pc npc bd) v = View.get t v).trans (h.views v hv),
    h.memMap, h.env⟩

@[simp] theorem readD_sequenceTo (s : State) (pc npc : Addr) (bd : Bool) (r : Reg) :
    (s.sequenceTo pc npc bd).readD r = s.readD r := rfl

theorem branchTo_free {s : State} (h : s.bd = false) (a : Addr) : branchTo s a = .next (s.sequenceTo s.npc a true) := by
  rw [branchTo, h]
  rfl

theorem noBranch_free {s : State} (h : s.bd = false) : noBranch s = .next (s.sequenceTo s.npc (s.npc + 4) true) := by
  rw [noBranch, h]
  rfl

theorem nullify_free {s : State} (h : s.bd = false) : nullify s = .next (s.sequenceTo (s.npc + 4) (s.npc + 8) false) := by
  rw [nullify, h]
  rfl

theorem branchTo_inSlot {s : State} (h : s.bd = true) (a : Addr) : branchTo s a = .fault .branchInDelaySlot := by
  rw [branchTo, h]
  rfl

theorem branchIf_inSlot {s : State} (h : s.bd = true) (c : Bool) (a : Addr) :
    branchIf c s a = .fault .branchInDelaySlot := by
  simp [branchIf, branchTo, noBranch, h]

theorem branchLikelyIf_inSlot {s : State} (h : s.bd = true) (c : Bool) (a : Addr) :
    branchLikelyIf c s a = .fault .branchInDelaySlot := by
  simp [branchLikelyIf, branchTo, nullify, h]

/-- The target of a branch, as a number modulo 2^32 (30_encoding.md R97). -/
theorem branchTarget_eq (s : State) (offset : BitVec 16) :
    s.branchTarget offset = BitVec.ofInt 32 (s.pc.toInt + 4 + 4 * offset.toInt) := by
  have scaled : (offset ++ 0#2).toInt = 4 * offset.toInt := by
    rw [BitVec.toInt_append, if_neg (by decide), BitVec.toNat_ofNat]
    omega
  have disp : (offset ++ 0#2).signExtend 32 = BitVec.ofInt 32 (4 * offset.toInt) := by
    rw [← scaled, ← toInt_signExtend_le (offset ++ 0#2) (m := 32) (by decide), BitVec.ofInt_toInt]
  rw [State.branchTarget, disp, BitVec.ofInt_add, BitVec.ofInt_add, BitVec.ofInt_toInt]
  rfl

section
variable {i : Instr} {s u : State} {changed : List View} {post : State → Prop}

/-- A transfer, after the state became `u`. -/
theorem transfers_of_branchTo {a : Addr} (h : exec i s = branchTo u a) (free : u.bd = false) (same : u.npc = s.npc)
    (frame : Frame s u (· ∈ changed)) (holds : ∀ pc npc bd, post (u.sequenceTo pc npc bd)) :
    Transfers i s s.npc a true changed post :=
  ⟨_, h.trans (branchTo_free free a), same, rfl, rfl, holds _ _ _, frame.sequenceTo _ _ _⟩

/-- A plain branch, after the state became `u`. -/
theorem branches_of_branchIf {c : Bool} {offset : BitVec 16} (h : exec i s = branchIf c u (s.branchTarget offset))
    (free : u.bd = false) (same : u.npc = s.npc) (frame : Frame s u (· ∈ changed))
    (holds : ∀ pc npc bd, post (u.sequenceTo pc npc bd)) : Branches i s c false offset changed post := by
  cases c with
  | true =>
    have taken := transfers_of_branchTo h free same frame holds
    rwa [branchTarget_eq] at taken
  | false => exact ⟨_, h.trans (noBranch_free free), same, congrArg (· + 4) same, rfl, holds _ _ _, frame.sequenceTo _ _ _⟩

/-- A branch of the likely kind, after the state became `u`. -/
theorem branches_of_branchLikelyIf {c : Bool} {offset : BitVec 16}
    (h : exec i s = branchLikelyIf c u (s.branchTarget offset)) (free : u.bd = false) (same : u.npc = s.npc)
    (frame : Frame s u (· ∈ changed)) (holds : ∀ pc npc bd, post (u.sequenceTo pc npc bd)) :
    Branches i s c true offset changed post := by
  cases c with
  | true =>
    have taken := transfers_of_branchTo h free same frame holds
    rwa [branchTarget_eq] at taken
  | false =>
    exact ⟨_, h.trans (nullify_free free), congrArg (· + 4) same, congrArg (· + 8) same, rfl, holds _ _ _,
      frame.sequenceTo _ _ _⟩
end

/-! ## The conditions -/

theorem decide_eq_toInt (x y : Dword) : decide (x = y) = decide (x.toInt = y.toInt) := by
  simp only [BitVec.toInt_inj]

theorem decide_ne_toInt (x y : Dword) : decide (x ≠ y) = decide (x.toInt ≠ y.toInt) := by
  simp only [ne_eq, BitVec.toInt_inj]

theorem sle_zero_eq (x : Dword) : x.sle 0 = decide (x.toInt ≤ 0) := BitVec.sle_eq_decide
theorem zero_sle_eq (x : Dword) : (0 : Dword).sle x = decide (0 ≤ x.toInt) := BitVec.sle_eq_decide
theorem slt_zero_eq (x : Dword) : x.slt 0 = decide (x.toInt < 0) := BitVec.slt_eq_decide
theorem zero_slt_eq (x : Dword) : (0 : Dword).slt x = decide (0 < x.toInt) := BitVec.slt_eq_decide

/-! ## Branches -/

section
variable {i : Instr} {s : State} {offset : BitVec 16} {c c' : Bool}

/-- A plain branch that changes nothing. -/
theorem branches_plain (free : s.bd = false) (h : exec i s = branchIf c s (s.branchTarget offset)) (hc : c = c') :
    Branches i s c' false offset [] fun _ => True :=
  hc ▸ branches_of_branchIf h free rfl (.refl s _) fun _ _ _ => trivial

/-- A likely branch that changes nothing. -/
theorem branches_likely (free : s.bd = false) (h : exec i s = branchLikelyIf c s (s.branchTarget offset)) (hc : c = c') :
    Branches i s c' true offset [] fun _ => True :=
  hc ▸ branches_of_branchLikelyIf h free rfl (.refl s _) fun _ _ _ => trivial
end

/-- Settles O25: each condition as a comparison of signed numbers. -/
theorem conditionalBranchesTransfer : Obligations.ConditionalBranchesTransfer := by
  unfold Obligations.ConditionalBranchesTransfer
  intro s rs rt offset free
  exact ⟨branches_plain free rfl (decide_eq_toInt _ _), branches_likely free rfl (decide_eq_toInt _ _),
    branches_plain free rfl (decide_ne_toInt _ _), branches_likely free rfl (decide_ne_toInt _ _),
    branches_plain free rfl (sle_zero_eq _), branches_likely free rfl (sle_zero_eq _),
    branches_plain free rfl (zero_slt_eq _), branches_likely free rfl (zero_slt_eq _),
    branches_plain free rfl (slt_zero_eq _), branches_likely free rfl (slt_zero_eq _),
    branches_plain free rfl (zero_sle_eq _), branches_likely free rfl (zero_sle_eq _)⟩

/-! ## Links -/

theorem toNat_linkValue (s : State) : s.linkValue.toNat = (s.pc.toNat + 8) % 2 ^ 32 := by
  simp [State.linkValue, zext64]
  omega

theorem linkValue_eq_ofNat (s : State) : s.linkValue = BitVec.ofNat 64 ((s.pc.toNat + 8) % 2 ^ 32) := by
  rw [← toNat_linkValue, BitVec.ofNat_toNat, BitVec.setWidth_eq]

section
variable {i : Instr} {s : State} {offset : BitVec 16} {c c' : Bool}

theorem toNat_link (s : State) (pc npc : Addr) (bd : Bool) :
    (((s.writeD 31 s.linkValue).sequenceTo pc npc bd).readD 31).toNat = (s.pc.toNat + 8) % 2 ^ 32 := by
  rw [readD_sequenceTo, readD_writeD_same, afterWrite, if_neg (by decide), toNat_linkValue]

/-- A plain branch that links in register 31. -/
theorem branches_link (free : s.bd = false)
    (h : exec i s = branchIf c (s.writeD 31 s.linkValue) (s.branchTarget offset)) (hc : c = c') :
    Branches i s c' false offset [.gprLow 31] fun t => (t.readD 31).toNat = (s.pc.toNat + 8) % 2 ^ 32 :=
  hc ▸ branches_of_branchIf h free rfl (frame_writeD s _ _) (toNat_link s)

/-- A likely branch that links in register 31. -/
theorem branches_link_likely (free : s.bd = false)
    (h : exec i s = branchLikelyIf c (s.writeD 31 s.linkValue) (s.branchTarget offset)) (hc : c = c') :
    Branches i s c' true offset [.gprLow 31] fun t => (t.readD 31).toNat = (s.pc.toNat + 8) % 2 ^ 32 :=
  hc ▸ branches_of_branchLikelyIf h free rfl (frame_writeD s _ _) (toNat_link s)
end

/-- Settles O26: with `rs` = 31 the refusal, else the link and the branch. -/
theorem branchesAndLinkAlwaysLink : Obligations.BranchesAndLinkAlwaysLink := by
  unfold Obligations.BranchesAndLinkAlwaysLink
  intro s rs offset
  refine ⟨fun other free => ?_, fun same => ?_⟩
  · exact ⟨branches_link free (if_neg other) (slt_zero_eq _), branches_link_likely free (if_neg other) (slt_zero_eq _),
      branches_link free (if_neg other) (zero_sle_eq _), branches_link_likely free (if_neg other) (zero_sle_eq _)⟩
  · simp only [List.forall_mem_cons]
    exact ⟨if_pos same, if_pos same, if_pos same, if_pos same, nofun⟩

/-! ## Jumps -/

/-- The target of a jump, as a number (30_encoding.md R98). -/
theorem jumpTarget_eq (s : State) (index : BitVec 26) :
    s.jumpTarget index = BitVec.ofNat 32 ((s.pc + 4).toNat / 2 ^ 28 * 2 ^ 28 + index.toNat * 4) := by
  apply BitVec.eq_of_toNat_eq
  have hi := index.isLt
  have hp := (s.pc + 4).isLt
  rw [State.jumpTarget, BitVec.toNat_append, BitVec.toNat_append, BitVec.toNat_ofNat, BitVec.extractLsb'_toNat,
    Nat.shiftRight_eq_div_pow, ← Nat.shiftLeft_add_eq_or_of_lt (by decide), ← Nat.shiftLeft_add_eq_or_of_lt hi]
  simp only [Nat.shiftLeft_eq, BitVec.toNat_ofNat]
  omega

/-- Settles O27: the jumps through `branchTo`, the links before it. -/
theorem jumpsTransferAndLink : Obligations.JumpsTransferAndLink := by
  unfold Obligations.JumpsTransferAndLink
  intro s rs rd index
  refine ⟨fun free => ⟨?j, ?jal, ?jr, fun other => ?jalr⟩, fun same nonzero => if_pos ⟨same, nonzero⟩⟩
  case j =>
    rw [← jumpTarget_eq]
    exact transfers_of_branchTo rfl free rfl (.refl s _) fun _ _ _ => trivial
  case jal =>
    rw [← jumpTarget_eq]
    refine transfers_of_branchTo rfl free rfl (frame_writeD s 31 _) fun _ _ _ => ?_
    rw [readD_sequenceTo, readD_writeD_same, linkValue_eq_ofNat]
    rfl
  case jr => exact transfers_of_branchTo rfl free rfl (.refl s _) fun _ _ _ => trivial
  case jalr =>
    have accepted : ¬ (rd = rs ∧ rd ≠ 0) := fun h => other.elim (· h.1) h.2
    refine transfers_of_branchTo (if_neg accepted) free rfl (frame_writeD s rd _) fun _ _ _ => ?_
    rw [readD_sequenceTo, readD_writeD_same, linkValue_eq_ofNat]

/-! ## In a delay slot -/

/-- Settles O28: every form ends in an operation that the delay-slot flag stops. -/
theorem branchInDelaySlotStops : Obligations.BranchInDelaySlotStops := by
  unfold Obligations.BranchInDelaySlotStops
  intro s rs rt rd offset index inSlot
  have linked (r : Reg) : (s.writeD r s.linkValue).bd = true := inSlot
  have drawn : State.bd { s with draws := s.draws + 1 } = true := inSlot
  simp only [List.forall_mem_cons]
  refine ⟨?conditional, fun other => ?linking, fun other => ?jalr, fun usable => ?cop0, fun usable => ?cop1⟩
  case conditional =>
    have plain (c a) := branchIf_inSlot inSlot c a
    have likely (c a) := branchLikelyIf_inSlot inSlot c a
    exact ⟨plain _ _, plain _ _, plain _ _, plain _ _, plain _ _, plain _ _, likely _ _, likely _ _, likely _ _,
      likely _ _, likely _ _, likely _ _, branchTo_inSlot inSlot _, branchTo_inSlot (linked 31) _, branchTo_inSlot inSlot _,
      nofun⟩
  case linking =>
    have plain (c a) := branchIf_inSlot (linked 31) c a
    have likely (c a) := branchLikelyIf_inSlot (linked 31) c a
    exact ⟨(if_neg other).trans (plain _ _), (if_neg other).trans (plain _ _), (if_neg other).trans (likely _ _),
      (if_neg other).trans (likely _ _), nofun⟩
  case jalr =>
    have accepted : ¬ (rd = rs ∧ rd ≠ 0) := fun h => other.elim (· h.1) h.2
    exact (if_neg accepted).trans (branchTo_inSlot (linked rd) _)
  case cop0 =>
    have plain (c a) := (withCop0_usable usable _).trans (branchIf_inSlot drawn c a)
    have likely (c a) := (withCop0_usable usable _).trans (branchLikelyIf_inSlot drawn c a)
    exact ⟨plain _ _, likely _ _, plain _ _, likely _ _, nofun⟩
  case cop1 =>
    have plain (c a) := (withCop1_usable usable _).trans (branchIf_inSlot inSlot c a)
    have likely (c a) := (withCop1_usable usable _).trans (branchLikelyIf_inSlot inSlot c a)
    exact ⟨plain _ _, likely _ _, plain _ _, likely _ _, nofun⟩

/-! ## Branches on a coprocessor's condition -/

section
variable {i : Instr} {s : State} {offset : BitVec 16} {c : Bool}

theorem frame_draw (s : State) : Frame s { s with draws := s.draws + 1 } (· ∈ [.draws]) := by
  refine ⟨fun v hv => ?_, rfl, rfl⟩
  cases v with
  | draws => exact absurd (List.mem_singleton.mpr rfl) hv
  | _ => rfl

/-- A plain branch on a condition that was drawn. -/
theorem branches_drawn (free : s.bd = false)
    (h : exec i s = branchIf c { s with draws := s.draws + 1 } (s.branchTarget offset)) :
    Branches i s c false offset [.draws] fun t => t.draws = s.draws + 1 :=
  branches_of_branchIf h free rfl (frame_draw s) fun _ _ _ => rfl

/-- A likely branch on a condition that was drawn. -/
theorem branches_drawn_likely (free : s.bd = false)
    (h : exec i s = branchLikelyIf c { s with draws := s.draws + 1 } (s.branchTarget offset)) :
    Branches i s c true offset [.draws] fun t => t.draws = s.draws + 1 :=
  branches_of_branchLikelyIf h free rfl (frame_draw s) fun _ _ _ => rfl
end

/-- Settles O42. -/
theorem coprocessorBranchesTransfer : Obligations.CoprocessorBranchesTransfer := by
  unfold Obligations.CoprocessorBranchesTransfer
  intro s offset free
  refine ⟨fun usable => ?_, fun usable => ?_⟩
  · exact ⟨branches_plain free (withCop1_usable usable _) rfl, branches_likely free (withCop1_usable usable _) rfl,
      branches_plain free (withCop1_usable usable _) rfl, branches_likely free (withCop1_usable usable _) rfl⟩
  · exact ⟨branches_drawn free (withCop0_usable usable _), branches_drawn_likely free (withCop0_usable usable _),
      branches_drawn free (withCop0_usable usable _), branches_drawn_likely free (withCop0_usable usable _)⟩

end Sys2Proof.Machine
end

section
/-! PROOF. Loads and stores (45_load_store.md, 20_memory.md R63 to R71; log entries 4, 5, 16, 17, 18). -/

namespace Sys2Proof.Machine

/-! ## Accesses that fail -/

/-- The instruction makes a checked access: what the checks raise it raises, where they stop it stops. -/
structure Accesses (i : Instr) (s : State) (kind : AccessKind) (ea a : Addr) (n align : Nat) : Prop where
  /-- An exception of the checks is the instruction's. -/
  raises : ∀ e, s.checkAccess kind ea a n align = .raises e → exec i s = raise e s
  /-- A stop of the checks is the instruction's. -/
  stops : ∀ f, s.checkAccess kind ea a n align = .stops f → exec i s = .fault f

section
variable {i : Instr} {s : State} {kind : AccessKind} {ea a : Addr} {n align : Nat}

theorem accesses_of_loadThen {k : Quad → State → State} (h : exec i s = loadThen s ea a n align k) :
    Accesses i s .load ea a n align where
  raises e check := by rw [h, loadThen, check]
  stops f check := by rw [h, loadThen, check]

theorem accesses_of_storeValue {v : Quad} (h : exec i s = storeValue s ea a n align v) :
    Accesses i s .store ea a n align where
  raises e check := by rw [h, storeValue, check]
  stops f check := by rw [h, storeValue, check]

theorem Accesses.addressError (acc : Accesses i s kind ea a n align)
    (bad : ea.toNat % align ≠ 0 ∨ (s.mode ≠ .reserved ∧ segmentAllows s.mode ea = false)) :
    Raises i s (addressError kind ea).code.toNat (addressError kind ea).coprocessor (addressError kind ea).badVAddr
      (addressError kind ea).badPAddr :=
  raises_of_raise _ (acc.raises _ (checkAccess_addressError kind a n bad)) (by cases kind <;> rfl)

theorem Accesses.busError (acc : Accesses i s kind ea a n align) (aligned : ea.toNat % align = 0)
    (allowed : segmentAllows s.mode ea = true) (absent : MapGives s kind a n .absent) (bem : s.statusBit 12 = false) :
    Raises i s (busError kind a).code.toNat (busError kind a).coprocessor (busError kind a).badVAddr
      (busError kind a).badPAddr :=
  raises_of_raise _ (acc.raises _ (checkAccess_busError aligned allowed absent bem)) (by cases kind <;> rfl)

theorem Accesses.masked (acc : Accesses i s kind ea a n align) (aligned : ea.toNat % align = 0)
    (allowed : segmentAllows s.mode ea = true) (absent : MapGives s kind a n .absent) (bem : s.statusBit 12 = true) :
    exec i s = .fault .busErrorMasked :=
  acc.stops _ (checkAccess_masked aligned allowed absent bem)

theorem Accesses.reserved (acc : Accesses i s kind ea a n align) (aligned : ea.toNat % align = 0)
    (mode : s.mode = .reserved) : exec i s = .fault .ksuReserved :=
  acc.stops _ (checkAccess_reserved kind a n aligned mode)
end

/-- Settles O32: every form is a checked access. -/
theorem failingAccessesRaise : Obligations.FailingAccessesRaise := by
  unfold Obligations.FailingAccessesRaise
  intro s base rt offset
  refine ⟨fun f hf => ?loads, fun f hf => ?stores⟩
  case loads =>
    obtain ⟨k, h, -⟩ := loadsInto_loadForms s base rt offset f hf
    have acc := accesses_of_loadThen h
    exact ⟨acc.addressError, fun ⟨aligned, allowed, absent⟩ => acc.busError aligned allowed absent,
      fun ⟨aligned, allowed, absent⟩ => acc.masked aligned allowed absent, acc.reserved⟩
  case stores =>
    obtain ⟨v, h⟩ := storesAs_storeForms s base rt offset f hf
    have acc := accesses_of_storeValue h
    exact ⟨acc.addressError, fun ⟨aligned, allowed, absent⟩ => acc.busError aligned allowed absent,
      fun ⟨aligned, allowed, absent⟩ => acc.masked aligned allowed absent, acc.reserved⟩

/-! ## Accesses that a device answers -/

section
variable {i : Instr} {s : State} {ea a : Addr} {n align : Nat}

theorem loadThen_device (k : Quad → State → State) (aligned : ea.toNat % align = 0) (allowed : segmentAllows s.mode ea = true)
    (device : MapGives s .load a n .device) :
    loadThen s ea a n align k = .next (k (s.deviceRead a n) { s with draws := s.draws + 1 }).advance := by
  rw [loadThen, checkAccess_device aligned allowed device]

/-- A store that a device absorbs. -/
theorem completes_of_storeValue_device {v : Quad} (h : exec i s = storeValue s ea a n align v) (aligned : ea.toNat % align = 0)
    (allowed : segmentAllows s.mode ea = true) (device : MapGives s .store a n .device) :
    CompletesIn i s (InMarks a n) fun t => t.mem = s.mem := by
  rw [storeValue, checkAccess_device aligned allowed device] at h
  exact ⟨_, h, rfl, (frame_marks s a n).advance, sequenced_advance rfl⟩
end

/-- Settles O33: a load's one effect besides its draw is a register write. -/
theorem deviceAccessesComplete : Obligations.DeviceAccessesComplete := by
  unfold Obligations.DeviceAccessesComplete
  intro s base rt offset
  refine ⟨fun f hf ⟨aligned, allowed, device⟩ => ?load, fun f hf ⟨aligned, allowed, device⟩ => ?store⟩
  case load =>
    obtain ⟨k, h, writes⟩ := loadsInto_loadForms s base rt offset f hf
    replace h := h.trans (loadThen_device k aligned allowed device)
    by_cases quad : f.bytes = 16
    · obtain ⟨q, hq⟩ := (if_pos quad ▸ writes (s.deviceRead f.start f.bytes) { s with draws := s.draws + 1 })
      rw [if_pos quad]
      rw [hq] at h
      exact ⟨_, h, rfl, ((frame_draw s).seq (frame_writeQ _ rt q) (by simp) (by simp)).advance, sequenced_advance rfl⟩
    · obtain ⟨d, hd⟩ := (if_neg quad ▸ writes (s.deviceRead f.start f.bytes) { s with draws := s.draws + 1 })
      rw [if_neg quad]
      rw [hd] at h
      exact ⟨_, h, rfl, ((frame_draw s).seq (frame_writeD _ rt d) (by simp) (by simp)).advance, sequenced_advance rfl⟩
  case store =>
    obtain ⟨v, h⟩ := storesAs_storeForms s base rt offset f hf
    exact completes_of_storeValue_device h aligned allowed device

/-! ## Loads from ordinary memory -/

/-- A load that ends in a write of bits 63:0. -/
theorem writesLow_of_loadThen {i : Instr} {s : State} {rt : Reg} {ea a : Addr} {n align : Nat} {k : Quad → State → State}
    {v w : Dword} (h : exec i s = loadThen s ea a n align k) (aligned : ea.toNat % align = 0)
    (allowed : segmentAllows s.mode ea = true) (ram : MapGives s .load a n .ram)
    (writes : k (s.mem.readBytes a n) s = s.writeD rt v) (hv : v = w) : WritesLow i s rt w := by
  rw [loadThen_ram k aligned allowed ram, writes] at h
  exact writesLow_of_resultD h hv

theorem toNat_readBytes_lt (m : Memory) (a : Addr) (n : Nat) (hn : n ≤ 16) : (m.readBytes a n).toNat < 2 ^ (8 * n) :=
  toNat_packLanes_lt 8 _ n (by omega)

/-- The signed value of the `n` bytes that were read. -/
theorem readBytes_signExtend (m : Memory) (a : Addr) (n : Nat) (hn : n ≤ 16) :
    ((m.readBytes a n).setWidth (8 * n)).signExtend 64 = BitVec.ofInt 64 ((littleEndian m a n : Int).bmod (2 ^ (8 * n))) := by
  rw [← toNat_readBytes m a n hn, ← BitVec.toInt_setWidth]
  rfl

/-- The unsigned value of the `n` bytes that were read. -/
theorem readBytes_setWidth (m : Memory) (a : Addr) (n : Nat) (hn : n ≤ 16) :
    ((m.readBytes a n).setWidth (8 * n)).setWidth 64 = BitVec.ofInt 64 (littleEndian m a n) := by
  apply BitVec.eq_of_toNat_eq
  rw [← toNat_readBytes m a n hn, BitVec.ofInt_natCast, BitVec.toNat_ofNat, BitVec.toNat_setWidth, BitVec.toNat_setWidth,
    Nat.mod_eq_of_lt (toNat_readBytes_lt m a n hn)]

theorem readBytes_setWidth_64 (m : Memory) (a : Addr) (n : Nat) (hn : n ≤ 16) :
    (m.readBytes a n).setWidth 64 = BitVec.ofInt 64 (littleEndian m a n) := by
  rw [← toNat_readBytes m a n hn, BitVec.ofInt_natCast]
  rfl

/-- The addresses of the aligned block that contains `a`, when it does not wrap. -/
theorem byteAddr_blockOf (a : Addr) (n k : Nat) (h : a.toNat / n * n + k < 2 ^ 32) :
    byteAddr (blockOf a n) k = a.toNat / n * n + k := by
  rw [byteAddr_eq, blockOf, BitVec.toNat_ofNat, Nat.mod_eq_of_lt (a := a.toNat / n * n) (by omega), Nat.mod_eq_of_lt h]

/-- Settles O29: one access, one register write. -/
theorem alignedLoadsRead : Obligations.AlignedLoadsRead := by
  unfold Obligations.AlignedLoadsRead
  intro s base rt offset
  refine ⟨fun allowed => ⟨fun ram => ⟨?lb, ?lbu⟩, fun aligned ram => ⟨?lh, ?lhu⟩, fun aligned ram => ⟨?lw, ?lwu⟩,
    fun aligned ram => ?ld⟩, fun allowed ram => ?lq⟩
  case lb => exact writesLow_of_loadThen (exec_lb ..) (Nat.mod_one _) allowed ram rfl (readBytes_signExtend _ _ 1 (by decide))
  case lbu => exact writesLow_of_loadThen (exec_lbu ..) (Nat.mod_one _) allowed ram rfl (readBytes_setWidth _ _ 1 (by decide))
  case lh => exact writesLow_of_loadThen (exec_lh ..) aligned allowed ram rfl (readBytes_signExtend _ _ 2 (by decide))
  case lhu => exact writesLow_of_loadThen (exec_lhu ..) aligned allowed ram rfl (readBytes_setWidth _ _ 2 (by decide))
  case lw => exact writesLow_of_loadThen (exec_lw ..) aligned allowed ram rfl (readBytes_signExtend _ _ 4 (by decide))
  case lwu => exact writesLow_of_loadThen (exec_lwu ..) aligned allowed ram rfl (readBytes_setWidth _ _ 4 (by decide))
  case ld => exact writesLow_of_loadThen (exec_ld ..) aligned allowed ram rfl (readBytes_setWidth_64 _ _ 8 (by decide))
  case lq =>
    refine writesLanes_of_resultQ ((exec_lq ..).trans (loadThen_ram _ (Nat.mod_one _) allowed ram)) fun k hk => ?_
    rw [lane_readBytes _ _ _ _ hk (by decide), byteAddr_blockOf _ _ _ (by omega)]

/-! ## Stores to ordinary memory -/

/-- A store whose bytes are known. -/
theorem stores_of_storeValue {i : Instr} {s : State} {ea a : Addr} {n align : Nat} {v : Quad} {f : Nat → Byte}
    (wf : Memory.wf s.mem = true) (h : exec i s = storeValue s ea a n align v) (aligned : ea.toNat % align = 0)
    (allowed : segmentAllows s.mode ea = true) (ram : MapGives s .store a n .ram) (hn : n ≤ 16)
    (hf : ∀ k, k < n → lane 8 v k = f k) : Stores i s a n f := by
  rw [storeValue_ram v aligned allowed ram] at h
  refine ⟨_, h, fun k hk => ⟨?byte, ?mark⟩, (frame_storeBytes s a n v wf).advance, sequenced_advance rfl⟩
  case byte =>
    rw [← byteAddr_eq, advance_mem, storeBytes_mem, Memory.read_writeBytes a v n k wf hk hn]
    exact hf k hk
  case mark =>
    rw [← byteAddr_eq, advance_stored, storeBytes_stored, mem_markBytes]
    exact .inl ⟨k, hk, rfl⟩

/-- A lane of a shifted word. -/
theorem lane_shifted_word (s : State) (rt : Reg) (m k : Nat) (h : m + k < 4) :
    lane 8 ((s.readW rt >>> (8 * m)).setWidth 128) k = lane 8 (s.readQ rt) (m + k) := by
  apply BitVec.eq_of_getLsbD_eq
  intro i hi
  have inWord : 8 * m + (8 * k + i) < 32 := by omega
  have inQuad : 8 * k + i < 128 := by omega
  have place : 8 * (m + k) + i = 8 * m + (8 * k + i) := by omega
  simp [getLsbD_lane, State.readW, State.readD, lowW, lowD, inWord, inQuad, place, inWord.trans]

/-- A lane of a shifted doubleword. -/
theorem lane_shifted_dword (s : State) (rt : Reg) (m k : Nat) (h : m + k < 8) :
    lane 8 ((s.readD rt >>> (8 * m)).setWidth 128) k = lane 8 (s.readQ rt) (m + k) := by
  apply BitVec.eq_of_getLsbD_eq
  intro i hi
  have inDword : 8 * m + (8 * k + i) < 64 := by omega
  have inQuad : 8 * k + i < 128 := by omega
  have place : 8 * (m + k) + i = 8 * m + (8 * k + i) := by omega
  simp [getLsbD_lane, State.readD, lowD, inDword, inQuad, place, inDword.trans]

/-- Settles O31: one access, its bytes those of the register or of the shifted register. -/
theorem storesWriteTheirBytes : Obligations.StoresWriteTheirBytes := by
  unfold Obligations.StoresWriteTheirBytes
  intro s base rt offset wf
  have one := Nat.mod_one (s.effAddr base offset).toNat
  refine ⟨fun allowed => ⟨fun ram => ?sb, fun aligned ram => ?sh, fun aligned ram => ?sw, fun aligned ram => ?sd,
    fun ram => ?swl, fun ram => ?swr, fun ram => ?sdl, fun ram => ?sdr⟩, fun allowed ram => ?sq⟩
  case sb => exact stores_of_storeValue wf (exec_sb ..) one allowed ram (by decide) fun _ _ => rfl
  case sh => exact stores_of_storeValue wf (exec_sh ..) aligned allowed ram (by decide) fun _ _ => rfl
  case sw => exact stores_of_storeValue wf (exec_sw ..) aligned allowed ram (by decide) fun _ _ => rfl
  case sd => exact stores_of_storeValue wf (exec_sd ..) aligned allowed ram (by decide) fun _ _ => rfl
  case sq => exact stores_of_storeValue wf (exec_sq ..) (Nat.mod_one _) allowed ram (by decide) fun _ _ => rfl
  case swl =>
    refine stores_of_storeValue wf (exec_swl ..) one allowed ram (by omega) fun k hk => ?_
    rw [lane_shifted_word s rt _ k (by omega), Nat.add_sub_add_right 3 1]
  case swr => exact stores_of_storeValue wf (exec_swr ..) one allowed ram (by omega) fun _ _ => rfl
  case sdl =>
    refine stores_of_storeValue wf (exec_sdl ..) one allowed ram (by omega) fun k hk => ?_
    rw [lane_shifted_dword s rt _ k (by omega), Nat.add_sub_add_right 7 1]
  case sdr => exact stores_of_storeValue wf (exec_sdr ..) one allowed ram (by omega) fun _ _ => rfl

/-! ## Merging loads -/

/-- Byte `k` of a wider value is its lane. -/
theorem byteOf_setWidth (v : Quad) (n k : Nat) (h : 8 * k + 8 ≤ n) : byteOf (v.setWidth n) k = lane 8 v k := by
  apply BitVec.eq_of_getLsbD_eq
  intro i hi
  simp [byteOf, lane, hi, show 8 * k + i < n by omega]

theorem getLsbD_byteOf {n : Nat} (v : BitVec n) (k i : Nat) : (byteOf v k).getLsbD i = (decide (i < 8) && v.getLsbD (8 * k + i)) :=
  BitVec.getLsbD_extractLsb' ..

/-- The bytes of a value merged at the top of `m` bytes. -/
theorem byteOf_mergeLeft {w m n j : Nat} (hw : w = 8 * m) (hn : n ≤ m) (hj : j < m) (v old : BitVec w) :
    byteOf ((v <<< (8 * (m - n))) ||| ((old <<< (8 * n)) >>> (8 * n))) j =
      if m - n ≤ j then byteOf v (j - (m - n)) else byteOf old j := by
  subst hw
  apply BitVec.eq_of_getLsbD_eq
  intro i hi
  simp only [getLsbD_byteOf, BitVec.getLsbD_or, BitVec.getLsbD_shiftLeft, BitVec.getLsbD_ushiftRight,
    show 8 * j + i < 8 * m by omega]
  by_cases top : m - n ≤ j
  · have place : 8 * j + i - 8 * (m - n) = 8 * (j - (m - n)) + i := by omega
    simp [top, getLsbD_byteOf, place, show ¬ 8 * j + i < 8 * (m - n) by omega, show ¬ 8 * n + (8 * j + i) < 8 * m by omega]
  · simp [top, getLsbD_byteOf, show 8 * j + i < 8 * (m - n) by omega, show 8 * n + (8 * j + i) < 8 * m by omega]

/-- The bytes of a value merged at the bottom of `m` bytes, where it is no wider than what it replaces. -/
theorem byteOf_mergeRight {w m n j : Nat} (hw : w = 8 * m) (hj : j < m) (v old : BitVec w)
    (narrow : ∀ k, n ≤ k → byteOf v k = 0) :
    byteOf (((old >>> (8 * n)) <<< (8 * n)) ||| v) j = if j < n then byteOf v j else byteOf old j := by
  subst hw
  apply BitVec.eq_of_getLsbD_eq
  intro i hi
  simp only [getLsbD_byteOf, BitVec.getLsbD_or, BitVec.getLsbD_shiftLeft, BitVec.getLsbD_ushiftRight,
    show 8 * j + i < 8 * m by omega]
  by_cases low : j < n
  · simp [low, getLsbD_byteOf, show 8 * j + i < 8 * n by omega]
  · have clear : v.getLsbD (8 * j + i) = false := by
      have bit := getLsbD_byteOf v j i
      rw [narrow j (by omega)] at bit
      simpa [hi] using bit.symm
    simp [low, getLsbD_byteOf, clear, show ¬ 8 * j + i < 8 * n by omega,
      show 8 * n + (8 * j + i - 8 * n) = 8 * j + i by omega]

/-- What was read has no byte beyond its length. -/
theorem lane_readBytes_beyond (m : Memory) (a : Addr) (n k : Nat) (hn : n ≤ k) : lane 8 (m.readBytes a n) k = 0 := by
  apply BitVec.eq_of_getLsbD_eq
  intro i hi
  rw [getLsbD_lane]
  by_cases inside : 8 * k + i < 128
  · rw [Memory.readBytes, getLsbD_packLanes 8 _ n k i hi inside]
    simp [hn]
  · simp [BitVec.getLsbD_of_ge _ _ (Nat.le_of_not_lt inside)]

/-- A byte of what was read, as long as the addresses do not wrap. -/
theorem byteOf_readBytes {m : Memory} {a : Addr} {n w k b : Nat} (hw : 8 * k + 8 ≤ w) (hk : k < n) (hn : n ≤ 16)
    (place : a.toNat + k = b) (inside : b < 2 ^ 32) : byteOf ((m.readBytes a n).setWidth w) k = Memory.read m b := by
  rw [byteOf_setWidth _ w k hw, lane_readBytes m a n k hk hn, byteAddr_eq, place, Nat.mod_eq_of_lt inside]

/-- The start of the block of `n` bytes that contains `a`. -/
theorem toNat_blockOf (a : Addr) (n : Nat) : (blockOf a n).toNat = a.toNat - a.toNat % n := by
  have below : a.toNat / n * n ≤ a.toNat := Nat.div_mul_le_self _ _
  rw [blockOf, BitVec.toNat_ofNat, Nat.mod_eq_of_lt (below.trans_lt a.isLt), Nat.div_mul_self_eq_mod_sub_self]

/-- Beyond its length, what was read is 0 in any width. -/
theorem byteOf_readBytes_beyond (m : Memory) (a : Addr) {n k : Nat} (w : Nat) (hn : n ≤ k) :
    byteOf ((m.readBytes a n).setWidth w) k = 0 := by
  apply BitVec.eq_of_getLsbD_eq
  intro i hi
  have bit := getLsbD_lane 8 (m.readBytes a n) k i
  rw [lane_readBytes_beyond m a n k hn] at bit
  rw [getLsbD_byteOf, BitVec.getLsbD_setWidth]
  simp [hi] at bit ⊢
  simp [← bit]

/-- Settles O30: the bytes of each merge, those from memory at their addresses. -/
theorem unalignedLoadsMerge : Obligations.UnalignedLoadsMerge := by
  unfold Obligations.UnalignedLoadsMerge
  intro s base rt offset
  have one := Nat.mod_one (s.effAddr base offset).toNat
  have bound := (s.effAddr base offset).isLt
  refine fun allowed => ⟨fun ram => ?lwl, fun ram => ?lwr, fun ram => ?ldl, fun ram => ?ldr⟩
  case lwl =>
    refine ⟨_, writesLow_of_loadThen (exec_lwl ..) one allowed ram rfl rfl, fun j hj => ?_⟩
    rw [mergeLeftW, byteOf_mergeLeft (m := 4) rfl (by omega) hj, Nat.add_sub_add_right 3 1]
    split
    · exact byteOf_readBytes (by omega) (by omega) (by omega) (by rw [toNat_blockOf]) (by omega)
    · rfl
  case lwr =>
    by_cases whole : (s.effAddr base offset).toNat % 4 = 0
    · refine ⟨(s.mem.readBytes (s.effAddr base offset) (4 - (s.effAddr base offset).toNat % 4)).setWidth 32,
        writesLow_of_loadThen (exec_lwr ..) one allowed ram (if_pos (by omega)) (if_pos whole).symm, fun j hj => ?_⟩
      rw [if_pos (by omega)]
      exact byteOf_readBytes (by omega) (by omega) (by omega) rfl (by omega)
    · refine ⟨_, writesLow_of_loadThen (exec_lwr ..) one allowed ram (if_neg (by omega)) (if_neg whole).symm,
        fun j hj => ?_⟩
      rw [mergeRightW, byteOf_mergeRight (m := 4) rfl hj _ _ fun k hk => byteOf_readBytes_beyond _ _ 32 hk]
      split
      · exact byteOf_readBytes (by omega) (by omega) (by omega) rfl (by omega)
      · rfl
  case ldl =>
    refine ⟨_, writesLow_of_loadThen (exec_ldl ..) one allowed ram rfl rfl, fun j hj => ?_⟩
    rw [mergeLeftD, byteOf_mergeLeft (m := 8) rfl (by omega) hj, Nat.add_sub_add_right 7 1]
    split
    · exact byteOf_readBytes (by omega) (by omega) (by omega) (by rw [toNat_blockOf]) (by omega)
    · rfl
  case ldr =>
    refine ⟨_, writesLow_of_loadThen (exec_ldr ..) one allowed ram rfl rfl, fun j hj => ?_⟩
    rw [mergeRightD, byteOf_mergeRight (m := 8) rfl hj _ _ fun k hk => byteOf_readBytes_beyond _ _ 64 hk]
    split
    · exact byteOf_readBytes (by omega) (by omega) (by omega) rfl (by omega)
    · rfl

/-! ## LWC1 and SWC1 -/

/-- Settles O49: the accesses of the floating-point registers. -/
theorem floatingPointLoadsAndStores : Obligations.FloatingPointLoadsAndStores := by
  unfold Obligations.FloatingPointLoadsAndStores
  intro s base ft offset usable
  have load : exec (.lwc1 base ft offset) s = loadThen s (s.effAddr base offset) (s.effAddr base offset) 4 4
      fun v t => t.writeF ft (v.setWidth 32) := withCop1_usable usable _
  have store : exec (.swc1 base ft offset) s = storeValue s (s.effAddr base offset) (s.effAddr base offset) 4 4
      ((s.readF ft).setWidth 128) := withCop1_usable usable _
  have loads := accesses_of_loadThen load
  have stores := accesses_of_storeValue store
  refine ⟨fun bad => ⟨loads.addressError bad, stores.addressError bad⟩,
    fun aligned mode => ⟨loads.reserved aligned mode, stores.reserved aligned mode⟩,
    fun aligned allowed => ⟨fun ram => ?load, fun wf ram => ?store, fun absent => ?noLoad, fun absent => ?noStore,
      fun device => ?loadDevice, fun device => completes_of_storeValue_device store aligned allowed device⟩⟩
  case load =>
    rw [loadThen_ram _ aligned allowed ram] at load
    refine ⟨_, load, ?_, (frame_writeF s ft _).advance, sequenced_advance rfl⟩
    show (State.readF _ ft).toNat = _
    rw [readF_advance, readF_writeF, if_pos rfl, BitVec.toNat_setWidth, ← toNat_readBytes _ _ 4 (by decide),
      Nat.mod_eq_of_lt (toNat_readBytes_lt s.mem _ 4 (by decide))]
  case store =>
    refine stores_of_storeValue wf store aligned allowed ram (by decide) fun k hk => ?_
    rw [← byteOf_setWidth _ 32 k (by omega), BitVec.setWidth_setWidth_of_le _ (by decide), BitVec.setWidth_eq]
  case noLoad =>
    split
    case isTrue bem => exact loads.masked aligned allowed absent bem
    case isFalse bem => exact loads.busError aligned allowed absent (eq_false_of_ne_true bem)
  case noStore =>
    split
    case isTrue bem => exact stores.masked aligned allowed absent bem
    case isFalse bem => exact stores.busError aligned allowed absent (eq_false_of_ne_true bem)
  case loadDevice =>
    rw [loadThen_device _ aligned allowed device] at load
    exact ⟨_, load, rfl, ((frame_draw s).seq (frame_writeF _ ft _) (by simp) (by simp)).advance, sequenced_advance rfl⟩

end Sys2Proof.Machine
end

section
/-! PROOF. Traps, SYSCALL and BREAK, ERET, EI and DI, and the usability of the coprocessors (46_trap_system_cop0.md sections 1
and 2; 60_exceptions.md R553, R562; 92_eei_decisions.md D10). -/

namespace Sys2Proof.Machine

/-! ## One register changed -/

/-- Where one piece of state changes, the frame is that piece. -/
theorem Frame.of_ne {s t : State} {w : View} (views : ∀ v, v ≠ w → View.get t v = View.get s v) (memMap : t.memMap = s.memMap)
    (env : t.env = s.env) : Frame s t (· ∈ [w]) :=
  ⟨fun v hv => views v fun e => hv (List.mem_singleton.mpr e), memMap, env⟩

section
variable (s : State) (w : Word)

theorem frame_status : Frame s { s with cop0 := { s.cop0 with status := w } } (· ∈ [.status]) :=
  .of_ne (fun v hv => by cases v with | status => exact absurd rfl hv | _ => rfl) rfl rfl

theorem frame_cause : Frame s { s with cop0 := { s.cop0 with cause := w } } (· ∈ [.cause]) :=
  .of_ne (fun v hv => by cases v with | cause => exact absurd rfl hv | _ => rfl) rfl rfl

theorem frame_epc : Frame s { s with cop0 := { s.cop0 with epc := w } } (· ∈ [.epc]) :=
  .of_ne (fun v hv => by cases v with | epc => exact absurd rfl hv | _ => rfl) rfl rfl

theorem frame_errorEpc : Frame s { s with cop0 := { s.cop0 with errorEpc := w } } (· ∈ [.errorEpc]) :=
  .of_ne (fun v hv => by cases v with | errorEpc => exact absurd rfl hv | _ => rfl) rfl rfl

theorem frame_count : Frame s { s with cop0 := { s.cop0 with count := w } } (· ∈ [.count]) :=
  .of_ne (fun v hv => by cases v with | count => exact absurd rfl hv | _ => rfl) rfl rfl

theorem frame_compare : Frame s { s with cop0 := { s.cop0 with compare := w } } (· ∈ [.compare]) :=
  .of_ne (fun v hv => by cases v with | compare => exact absurd rfl hv | _ => rfl) rfl rfl

theorem frame_bpc : Frame s { s with dbg := { s.dbg with bpc := w } } (· ∈ [.bpc]) :=
  .of_ne (fun v hv => by cases v with | bpc => exact absurd rfl hv | _ => rfl) rfl rfl

theorem frame_iab : Frame s { s with dbg := { s.dbg with iab := w } } (· ∈ [.iab]) :=
  .of_ne (fun v hv => by cases v with | iab => exact absurd rfl hv | _ => rfl) rfl rfl

theorem frame_dab : Frame s { s with dbg := { s.dbg with dab := w } } (· ∈ [.dab]) :=
  .of_ne (fun v hv => by cases v with | dab => exact absurd rfl hv | _ => rfl) rfl rfl

theorem frame_dabm : Frame s { s with dbg := { s.dbg with dabm := w } } (· ∈ [.dabm]) :=
  .of_ne (fun v hv => by cases v with | dabm => exact absurd rfl hv | _ => rfl) rfl rfl

theorem frame_dvb : Frame s { s with dbg := { s.dbg with dvb := w } } (· ∈ [.dvb]) :=
  .of_ne (fun v hv => by cases v with | dvb => exact absurd rfl hv | _ => rfl) rfl rfl

theorem frame_dvbm : Frame s { s with dbg := { s.dbg with dvbm := w } } (· ∈ [.dvbm]) :=
  .of_ne (fun v hv => by cases v with | dvbm => exact absurd rfl hv | _ => rfl) rfl rfl

theorem frame_pccr : Frame s { s with perf := { s.perf with pccr := w } } (· ∈ [.pccr]) :=
  .of_ne (fun v hv => by cases v with | pccr => exact absurd rfl hv | _ => rfl) rfl rfl

theorem frame_pcr0 : Frame s { s with perf := { s.perf with pcr0 := w } } (· ∈ [.pcr0]) :=
  .of_ne (fun v hv => by cases v with | pcr0 => exact absurd rfl hv | _ => rfl) rfl rfl

theorem frame_pcr1 : Frame s { s with perf := { s.perf with pcr1 := w } } (· ∈ [.pcr1]) :=
  .of_ne (fun v hv => by cases v with | pcr1 => exact absurd rfl hv | _ => rfl) rfl rfl
end

/-- An instruction that answers `t`, control going on. -/
theorem completes_of_advance {i : Instr} {s t : State} {changed : List View} {post : State → Prop}
    (h : exec i s = .next t.advance) (frame : Frame s t (· ∈ changed)) (same : t.npc = s.npc) (holds : post t.advance) :
    Completes i s changed post :=
  ⟨_, h, holds, frame.advance, sequenced_advance same⟩

/-! ## Conditional traps -/

/-- What `trapIf` does. -/
theorem traps_of_trapIf {i : Instr} {s : State} {c c' : Bool} (h : exec i s = trapIf c s) (hc : c = c') :
    if c' then Raises i s 13 else OnlyAdvances i s := by
  subst hc
  cases c with
  | true => exact raises_of_raise .trap h rfl
  | false => exact onlyAdvances_of_next h

theorem ule_eq_decide_int (x y : Dword) : x.ule y = decide ((y.toNat : Int) ≥ (x.toNat : Int)) := by
  rw [BitVec.ule_eq_decide]
  exact decide_eq_decide.mpr Int.ofNat_le.symm

theorem ult_eq_decide_int (x y : Dword) : x.ult y = decide ((x.toNat : Int) < (y.toNat : Int)) := by
  rw [BitVec.ult_eq_decide]
  exact decide_eq_decide.mpr Int.ofNat_lt.symm

/-- Settles O35: each comparison in numbers. -/
theorem conditionalTrapsRaiseWhenTrue : Obligations.ConditionalTrapsRaiseWhenTrue := by
  unfold Obligations.ConditionalTrapsRaiseWhenTrue
  intro s rs rt code imm
  refine ⟨traps_of_trapIf rfl BitVec.sle_eq_decide, traps_of_trapIf rfl (ule_eq_decide_int _ _),
    traps_of_trapIf rfl BitVec.slt_eq_decide, traps_of_trapIf rfl (ult_eq_decide_int _ _),
    traps_of_trapIf rfl (decide_eq_toInt _ _), traps_of_trapIf rfl (decide_ne_toInt _ _),
    traps_of_trapIf rfl ?tgei, traps_of_trapIf rfl ?tgeiu, traps_of_trapIf rfl ?tlti, traps_of_trapIf rfl ?tltiu,
    traps_of_trapIf rfl ?teqi, traps_of_trapIf rfl ?tnei⟩
  case tgei => rw [BitVec.sle_eq_decide, toInt_signImm]
  case tgeiu => rw [ule_eq_decide_int, toNat_signImm]
  case tlti => rw [BitVec.slt_eq_decide, toInt_signImm]
  case tltiu => rw [ult_eq_decide_int, toNat_signImm]
  case teqi => rw [decide_eq_toInt, toInt_signImm]
  case tnei => rw [decide_ne_toInt, toInt_signImm]

/-! ## SYSCALL and BREAK, and the environment that may serve them -/

/-- The instruction that is about to run is the one a step runs. -/
theorem step_of_nextInstr {s t : State} {i : Instr} (h : nextInstr s = some (i, t)) : step s = exec i t := by
  unfold nextInstr at h
  split at h
  · cases h
  · rename_i noEvent
    rw [step_of_no_event noEvent]
    split at h
    · rename_i w u fetched
      split at h
      · rename_i j decoded
        injection h with h
        injection h with hi ht
        subst hi ht
        exact runInstruction_of_ok fetched decoded
      · cases h
    · cases h
    · cases h

/-- A call goes to the environment. -/
theorem launchedStep_of_call {answer : EnvCall → State → EnvAnswer} {s t : State} {i : Instr} {c : EnvCall}
    (h : nextInstr s = some (i, t)) (call : callOf i = some c) : launchedStep answer s = served s (answer c t) := by
  simp only [launchedStep, h, call]

/-- What an answer makes of a call whose own effect is the exception. -/
theorem served_of_raise {s t : State} {i : Instr} {e : Exc} (h : nextInstr s = some (i, t)) (raises : exec i t = raise e t)
    (a : EnvAnswer) : served s a =
      match a with
      | .endOfRun => .error .environment
      | .resume u => .ok u
      | .trap => .ok (takeException e t) := by
  cases a with
  | endOfRun => rfl
  | resume u => rfl
  | trap =>
    show machineStep s = _
    unfold machineStep
    rw [step_of_nextInstr h, raises]
    rfl

/-- A run whose next step the environment ends. -/
theorem run_of_environment {l : LaunchState} {f : Answers} {n : Nat} {s : State}
    (h : launchedStep (f n) s = .error .environment) : l.run f (n + 1) false s = (s, some .environment) := by
  rw [LaunchState.run, Bool.false_and, Bool.false_and, if_neg Bool.false_ne_true, h]

/-- Settles O36. -/
theorem syscallAndBreakRaise : Obligations.SyscallAndBreakRaise := by
  unfold Obligations.SyscallAndBreakRaise
  refine ⟨fun s code => ⟨raises_of_raise .systemCall rfl rfl, raises_of_raise .breakpoint rfl rfl⟩,
    fun answer s t code => ⟨fun next => ?systemCall, fun next => ?breakpoint⟩, fun l f n s t code allows next => ?run⟩
  case systemCall => exact (launchedStep_of_call next rfl).trans (served_of_raise next rfl _)
  case breakpoint => exact (launchedStep_of_call next rfl).trans (served_of_raise next rfl _)
  case run =>
    have ends : f n (.systemCall code) t = .endOfRun := allows n (.systemCall code) t
    exact run_of_environment ((launchedStep_of_call next rfl).trans (congrArg (served s) ends))

/-! ## ERET -/

theorem frame_exceptionReturn (s : State) : Frame s (exceptionReturn s) (· ∈ [.status]) := by
  unfold exceptionReturn
  split
  · exact (frame_status s (setBit s.cop0.status 2 false)).sequenceTo s.cop0.errorEpc (s.cop0.errorEpc + 4) false
  · exact (frame_status s (setBit s.cop0.status 1 false)).sequenceTo s.cop0.epc (s.cop0.epc + 4) false

/-- Where ERET goes. -/
theorem pc_exceptionReturn (s : State) :
    (exceptionReturn s).pc = if s.statusBit 2 then s.cop0.errorEpc else s.cop0.epc := by
  unfold exceptionReturn
  split
  · rfl
  · rfl

theorem npc_exceptionReturn (s : State) : (exceptionReturn s).npc = (exceptionReturn s).pc + 4 := by
  unfold exceptionReturn
  split
  · rfl
  · rfl

theorem bd_exceptionReturn (s : State) : (exceptionReturn s).bd = false := by
  unfold exceptionReturn
  split
  · rfl
  · rfl

/-- What ERET leaves of Status: ERL is cleared where it was set, else EXL. -/
theorem status_exceptionReturn (s : State) :
    (exceptionReturn s).cop0.status = setBit s.cop0.status (if s.statusBit 2 then 2 else 1) false := by
  unfold exceptionReturn
  split
  · rfl
  · rfl

theorem statusBit_exceptionReturn (s : State) (k : Nat) :
    (exceptionReturn s).statusBit k = (s.statusBit k && decide (k ≠ if s.statusBit 2 then 2 else 1)) := by
  have inWord : (if s.statusBit 2 then 2 else 1) < 32 := by
    split
    · decide
    · decide
  rw [State.statusBit, status_exceptionReturn, getLsbD_setBit _ _ _ _ inWord]
  generalize (if s.statusBit 2 then 2 else 1) = cleared
  by_cases h : k = cleared
  · simp [h]
  · simp [h, State.statusBit]

/-- ERET outside a delay slot. -/
theorem exec_eret {s : State} (usable : s.cop0Usable = true) (free : s.bd = false) :
    exec .eret s = .next (exceptionReturn s) :=
  (withCop0_usable usable _).trans (if_neg (by rw [free]; decide))

/-- Settles O37. -/
theorem eretReturns : Obligations.EretReturns := by
  unfold Obligations.EretReturns
  intro s usable
  refine ⟨fun inSlot => (withCop0_usable usable _).trans (if_pos inSlot), fun free => ?_⟩
  exact ⟨_, exec_eret usable free, pc_exceptionReturn s,
    (npc_exceptionReturn s).trans (congrArg (· + 4) (pc_exceptionReturn s)), bd_exceptionReturn s,
    statusBit_exceptionReturn s, frame_exceptionReturn s⟩

theorem mode_congr {s t : State} (h : t.cop0.status = s.cop0.status) : t.mode = s.mode := by
  have bits : t.statusBit = s.statusBit := by
    funext k
    exact congrArg (·.getLsbD k) h
  rw [State.mode, State.mode, bits]

/-- Settles O38: trap entry sets EXL, which was 0, and saves the pc that ERET restores. -/
theorem eretUndoesExceptionEntry : Obligations.EretUndoesExceptionEntry := by
  unfold Obligations.EretUndoesExceptionEntry
  intro s e exl erl free
  have entry := takeException_enters e s
  have erl' : (takeException e s).statusBit 2 = false := by rw [entry.status, erl]; rfl
  have kernel : (takeException e s).mode = .kernel := mode_of_privileged (.inl (by rw [entry.status]; rfl))
  have usable : (takeException e s).cop0Usable = true := by rw [State.cop0Usable, kernel]; rfl
  have pc : (exceptionReturn (takeException e s)).pc = s.pc := by
    rw [pc_exceptionReturn, erl', if_neg Bool.false_ne_true, entry.epc, exl, free, if_neg Bool.false_ne_true,
      if_neg Bool.false_ne_true]
  have status : (exceptionReturn (takeException e s)).cop0.status = s.cop0.status := by
    apply BitVec.eq_of_getLsbD_eq
    intro k _
    show State.statusBit _ k = s.statusBit k
    rw [statusBit_exceptionReturn, erl', if_neg Bool.false_ne_true, entry.status]
    by_cases one : k = 1
    · simp [one, exl]
    · simp [one]
  exact ⟨_, exec_eret usable entry.bd, pc, (npc_exceptionReturn _).trans (congrArg (· + 4) pc), bd_exceptionReturn _, status,
    mode_congr status⟩

/-! ## EI and DI -/

theorem ksu_eq_zero (s : State) : (s.cop0.status.extractLsb' 3 2 == 0) = (!s.statusBit 4 && !s.statusBit 3) := by
  have number := ksu_toNat s
  rw [Bool.eq_iff_iff, beq_iff_eq, ← BitVec.toNat_inj, number]
  cases s.statusBit 4 <;> cases s.statusBit 3 <;> decide

/-- What EI and DI do. -/
theorem switches_eie {i : Instr} {s : State} {b : Bool}
    (h : exec i s = .next (State.advance (if interruptSwitchAllowed s then setEie s b else s))) :
    if s.statusBit 17 || s.statusBit 1 || s.statusBit 2 || (s.cop0.status.extractLsb' 3 2 == 0) then
      Completes i s [.status] fun t => ∀ k, t.statusBit k = if k = 16 then b else s.statusBit k
    else OnlyAdvances i s := by
  rw [ksu_eq_zero]
  show if interruptSwitchAllowed s then _ else _
  by_cases allowed : interruptSwitchAllowed s = true
  · rw [if_pos allowed] at h ⊢
    exact ⟨_, h, fun k => getLsbD_setBit _ 16 k b (by decide), (frame_status s _).advance, sequenced_advance rfl⟩
  · rw [if_neg allowed] at h ⊢
    exact onlyAdvances_of_next h

/-- Settles O39. -/
theorem eiDiSwitchEieWhereAllowed : Obligations.EiDiSwitchEieWhereAllowed := by
  unfold Obligations.EiDiSwitchEieWhereAllowed
  intro s
  exact ⟨switches_eie rfl, switches_eie rfl⟩

/-! ## Usability -/

/-- An instruction of coprocessor 0 where it is not usable. -/
theorem raises_of_cop0_unusable {i : Instr} {s : State} {k : Result} (unusable : s.cop0Usable = false)
    (h : exec i s = withCop0 s k) : Raises i s 11 (some 0) :=
  raises_of_raise (.coprocessorUnusable 0) (h.trans (withCop0_unusable unusable k)) rfl

/-- An instruction of coprocessor 1 where it is not usable. -/
theorem raises_of_cop1_unusable {i : Instr} {s : State} {k : Result} (unusable : s.cop1Usable = false)
    (h : exec i s = withCop1 s k) : Raises i s 11 (some 1) :=
  raises_of_raise (.coprocessorUnusable 1) (h.trans (withCop1_unusable unusable k)) rfl

/-- Settles O44: each instruction tests coprocessor 0 first. -/
theorem cop0InstructionsNeedCop0 : Obligations.Cop0InstructionsNeedCop0 := by
  unfold Obligations.Cop0InstructionsNeedCop0
  intro s rt rd reg offset mode cu
  have unusable : s.cop0Usable = false := by simp [State.cop0Usable, mode, cu]
  have raises {i : Instr} {k : Result} (h : exec i s = withCop0 s k) : Raises i s 11 (some 0) :=
    raises_of_cop0_unusable unusable h
  simp only [List.forall_mem_cons]
  exact ⟨raises rfl, raises rfl, raises rfl, raises rfl, raises rfl, raises rfl, raises rfl, raises rfl, raises rfl, raises rfl,
    raises rfl, raises rfl, raises rfl, raises rfl, raises rfl, raises rfl, raises rfl, raises rfl, raises rfl, raises rfl,
    raises rfl, raises rfl, raises rfl, raises rfl, nofun⟩

/-- Settles O45: each instruction tests coprocessor 1 first, LWC1 and SWC1 before the checks of their address. -/
theorem floatingPointInstructionsNeedCop1 : Obligations.FloatingPointInstructionsNeedCop1 := by
  unfold Obligations.FloatingPointInstructionsNeedCop1
  intro s rt ft fs fd base offset cu
  have raises {i : Instr} {k : Result} (h : exec i s = withCop1 s k) : Raises i s 11 (some 1) :=
    raises_of_cop1_unusable cu h
  simp only [List.forall_mem_cons]
  exact ⟨raises rfl, raises rfl, raises rfl, raises rfl, raises rfl, raises rfl, raises rfl, raises rfl, raises rfl, raises rfl,
    raises rfl, raises rfl, raises rfl, raises rfl, raises rfl, raises rfl, raises rfl, raises rfl, raises rfl, raises rfl,
    raises rfl, raises rfl, raises rfl, raises rfl, raises rfl, raises rfl, raises rfl, raises rfl, raises rfl, raises rfl,
    raises rfl, raises rfl, raises rfl, nofun⟩

end Sys2Proof.Machine
end

section
/-! PROOF. The moves of coprocessor 0 and of the breakpoint and performance registers (46_trap_system_cop0.md sections 3 to 5). -/

namespace Sys2Proof.Machine

/-! ## Reads that may draw -/

/-- A draw, and the register written with what was drawn. -/
theorem completes_of_drawn {i : Instr} {s : State} {rt : Reg} {v : Word}
    (h : exec i s = resultW { s with draws := s.draws + 1 } rt v) :
    Completes i s [.gprLow rt, .draws] fun t => t.readD rt = afterWrite rt (v.signExtend 64) ∧ t.draws = s.draws + 1 :=
  completes_of_advance h ((frame_draw s).seq (frame_writeD _ rt _) (by simp) (by simp)) rfl
    ⟨(readD_advance _ _).trans (readD_writeD_same _ _ _), rfl⟩

/-! ## MFC0 -/

section
variable {s : State} {rt n : Reg}

/-- MFC0 of a register that holds a value. -/
theorem writesLow_mfc0 (usable : s.cop0Usable = true) {v : Word} (h : readCop0 s n = .value v) :
    WritesLow (.mfc0 rt n) s rt (v.signExtend 64) := by
  have step : exec (.mfc0 rt n) s = _ := withCop0_usable usable _
  rw [h] at step
  exact writesLow_of_resultW step rfl

/-- MFC0 of a register whose value is free. -/
theorem completes_mfc0_drawn (usable : s.cop0Usable = true) {v : Word} (h : readCop0 s n = .drawn v) :
    Completes (.mfc0 rt n) s [.gprLow rt, .draws] fun t =>
      t.readD rt = afterWrite rt (v.signExtend 64) ∧ t.draws = s.draws + 1 := by
  have step : exec (.mfc0 rt n) s = _ := withCop0_usable usable _
  rw [h] at step
  exact completes_of_drawn step

/-- MFC0 of a register that the model refuses. -/
theorem mfc0_refused (usable : s.cop0Usable = true) {r : Refusal} (h : readCop0 s n = .refuse r) :
    exec (.mfc0 rt n) s = .refused r := by
  have step : exec (.mfc0 rt n) s = _ := withCop0_usable usable _
  rw [h] at step
  exact step
end

theorem getLsbD_causeView (s : State) (k : Nat) : (causeView s).getLsbD k =
    if k = 10 then s.int0 else if k = 11 then s.int1 else s.cop0.cause.getLsbD k && (0xF007807C : Word).getLsbD k := by
  rw [causeView, getLsbD_setBit _ 11 k _ (by decide), getLsbD_setBit _ 10 k _ (by decide), causeMask, BitVec.getLsbD_and]
  by_cases line0 : k = 10
  · simp [line0]
  · rw [if_neg line0, if_neg line0]

/-- Settles O40: `readCop0`, number by number. -/
theorem mfc0ReadsEachRegister : Obligations.Mfc0ReadsEachRegister := by
  unfold Obligations.Mfc0ReadsEachRegister
  intro s rt usable
  have reads {n : Reg} {v : Word} (h : readCop0 s n = .value v) : WritesLow (.mfc0 rt n) s rt (v.signExtend 64) :=
    writesLow_mfc0 usable h
  refine ⟨reads rfl, reads rfl, reads rfl, reads rfl, reads rfl, reads rfl, reads rfl,
    ⟨causeView s, reads rfl, getLsbD_causeView s⟩, ⟨Config.prid16, fun s' r usable' => writesLow_mfc0 usable' rfl⟩,
    completes_mfc0_drawn usable rfl, ?free, ?refused⟩
  case free =>
    have draws {n : Reg} (h : readCop0 s n = .drawn (Config.c0Reserved s.draws)) := completes_mfc0_drawn (rt := rt) usable h
    simp only [List.forall_mem_cons]
    exact ⟨draws rfl, draws rfl, draws rfl, draws rfl, draws rfl, draws rfl, draws rfl, draws rfl, draws rfl, draws rfl, nofun⟩
  case refused =>
    have refused {n : Reg} {r : Refusal} (h : readCop0 s n = .refuse r) := mfc0_refused (rt := rt) usable h
    simp only [List.forall_mem_cons]
    exact ⟨refused rfl, refused rfl, refused rfl, refused rfl, refused rfl, refused rfl, refused rfl, refused rfl, refused rfl,
      refused rfl, nofun⟩

/-! ## MTC0 -/

section
variable {s t : State} {rt n : Reg}

/-- MTC0 to a register that takes the value. -/
theorem completes_mtc0 (usable : s.cop0Usable = true) {changed : List View} {post : State → Prop}
    (h : writeCop0 s n (s.readW rt) = .ok t) (frame : Frame s t (· ∈ changed)) (same : t.npc = s.npc) (holds : post t.advance) :
    Completes (.mtc0 rt n) s changed post := by
  have step : exec (.mtc0 rt n) s = _ := withCop0_usable usable _
  rw [h] at step
  exact completes_of_advance step frame same holds

/-- MTC0 that the model refuses. -/
theorem mtc0_refused (usable : s.cop0Usable = true) {r : Refusal} (h : writeCop0 s n (s.readW rt) = .error r) :
    exec (.mtc0 rt n) s = .refused r := by
  have step : exec (.mtc0 rt n) s = _ := withCop0_usable usable _
  rw [h] at step
  exact step
end

/-- Both bits of a field of two bits that is 11. -/
theorem field_eq_three {w : Word} {lo : Nat} (h : w.extractLsb' lo 2 = 3) : (w.getLsbD (lo + 1) && w.getLsbD lo) = true := by
  have high := congrArg (·.getLsbD 1) h
  have low := congrArg (·.getLsbD 0) h
  simp only [BitVec.getLsbD_extractLsb'] at high low
  exact Bool.and_eq_true_iff.mpr ⟨high, low⟩

/-- Settles O41: `writeCop0`, number by number. -/
theorem mtc0WritesEachRegister : Obligations.Mtc0WritesEachRegister := by
  unfold Obligations.Mtc0WritesEachRegister
  intro s rt usable
  refine ⟨?status, completes_mtc0 usable rfl (frame_epc s _) rfl rfl, completes_mtc0 usable rfl (frame_errorEpc s _) rfl rfl,
    completes_mtc0 usable rfl (frame_count s _) rfl rfl, ?compare, ?ignored, mtc0_refused usable rfl, mtc0_refused usable rfl,
    ?refused⟩
  case status =>
    split
    case isTrue reserved => exact mtc0_refused usable (if_pos (field_eq_three reserved))
    case isFalse legal =>
      exact completes_mtc0 usable (if_neg (by rw [field_ne_three legal]; exact Bool.false_ne_true)) (frame_status s _) rfl rfl
  case compare =>
    have frame := (frame_compare s (s.readW rt)).seq (frame_cause _ (setBit s.cop0.cause 15 false)) (c := [.compare, .cause])
      (by simp) (by simp)
    refine completes_mtc0 usable rfl frame rfl ⟨rfl, fun k => ?_⟩
    refine (getLsbD_setBit _ 15 k false (by decide)).trans ?_
    by_cases timer : k = 15
    · simp [timer]
    · simp [timer]
  case ignored =>
    have ignored {n : Reg} (h : writeCop0 s n (s.readW rt) = .ok s) : OnlyAdvances (.mtc0 rt n) s :=
      completes_mtc0 usable h (.refl s _) rfl trivial
    simp only [List.forall_mem_cons]
    exact ⟨ignored rfl, ignored rfl, ignored rfl, ignored rfl, ignored rfl, ignored rfl, ignored rfl, ignored rfl, ignored rfl,
      ignored rfl, ignored rfl, ignored rfl, ignored rfl, nofun⟩
  case refused =>
    have refused {n : Reg} {r : Refusal} (h : writeCop0 s n (s.readW rt) = .error r) := mtc0_refused usable h
    simp only [List.forall_mem_cons]
    exact ⟨refused rfl, refused rfl, refused rfl, refused rfl, refused rfl, refused rfl, refused rfl, refused rfl, refused rfl,
      refused rfl, nofun⟩

/-! ## The breakpoint and performance registers -/

theorem bpc_armed {v : Word} (h : (v.getLsbD 29 || v.getLsbD 30 || v.getLsbD 31) = true) : ¬ v &&& 0xE0000000 = 0 := by
  intro zero
  have clear (k : Nat) (hk : (0xE0000000 : Word).getLsbD k = true) : v.getLsbD k = false := by
    have bit : (v &&& 0xE0000000).getLsbD k = _ := congrArg (·.getLsbD k) zero
    rw [BitVec.getLsbD_and, hk, Bool.and_true] at bit
    exact bit.trans BitVec.getLsbD_zero
  rw [clear 29 rfl, clear 30 rfl, clear 31 rfl] at h
  exact Bool.false_ne_true h

theorem bpc_unarmed {v : Word} (h : ¬ (v.getLsbD 29 || v.getLsbD 30 || v.getLsbD 31) = true) : v &&& 0xE0000000 = 0 := by
  apply breakpoints_of_unarmed
  simpa [and_assoc] using h

section
variable {s : State} {rt : Reg}

theorem completes_mtbpc (usable : s.cop0Usable = true) (h : s.readW rt &&& 0xE0000000 = 0) :
    Completes (.mtbpc rt) s [.bpc] fun t => t.dbg.bpc = s.readW rt := by
  have step : exec (.mtbpc rt) s = _ := withCop0_usable usable _
  rw [writeBpc, if_pos h] at step
  exact completes_of_advance step (frame_bpc s _) rfl rfl

theorem mtbpc_refused (usable : s.cop0Usable = true) (h : ¬ s.readW rt &&& 0xE0000000 = 0) :
    exec (.mtbpc rt) s = .refused .breakpointEnable := by
  have step : exec (.mtbpc rt) s = _ := withCop0_usable usable _
  rw [writeBpc, if_neg h] at step
  exact step

theorem completes_mtps (usable : s.cop0Usable = true) (h : ¬ (s.readW rt).getLsbD 31 = true) :
    Completes (.mtps rt 0) s [.pccr] fun t => t.perf.pccr = s.readW rt := by
  have step : exec (.mtps rt 0) s = _ := (withCop0_usable usable _).trans (if_pos rfl)
  rw [writePccr, if_neg h] at step
  exact completes_of_advance step (frame_pccr s _) rfl rfl

theorem mtps_refused (usable : s.cop0Usable = true) (h : (s.readW rt).getLsbD 31 = true) :
    exec (.mtps rt 0) s = .refused .counterEnable := by
  have step : exec (.mtps rt 0) s = _ := (withCop0_usable usable _).trans (if_pos rfl)
  rw [writePccr, if_pos h] at step
  exact step

/-- MFPC of one of the two counters. -/
theorem reads_mfpc (usable : s.cop0Usable = true) {n : BitVec 5} (hn : ¬ 2 ≤ n.toNat) {p : Word}
    (hp : (if n = 0 then s.perf.pcr0 else s.perf.pcr1) = p) :
    if s.perf.pccr.getLsbD 31 then Completes (.mfpc rt n) s [.gprLow rt, .draws] fun t => t.draws = s.draws + 1
    else WritesLow (.mfpc rt n) s rt (p.signExtend 64) := by
  subst hp
  have step : exec (.mfpc rt n) s = _ := (withCop0_usable usable _).trans (if_neg hn)
  split
  case isTrue counting => exact (completes_of_drawn (step.trans (if_pos counting))).imp fun _ => And.right
  case isFalse still => exact writesLow_of_resultW (step.trans (if_neg still)) rfl
end

/-- Settles O43: one move at a time; the refusals by the bits of the value and by the selector. -/
theorem debugAndPerformanceMovesCopy : Obligations.DebugAndPerformanceMovesCopy := by
  unfold Obligations.DebugAndPerformanceMovesCopy
  intro s rt reg usable
  have goes (k : Result) := withCop0_usable usable k
  refine ⟨writesLow_of_resultW (goes _) rfl, writesLow_of_resultW (goes _) rfl, writesLow_of_resultW (goes _) rfl,
    writesLow_of_resultW (goes _) rfl, writesLow_of_resultW (goes _) rfl, writesLow_of_resultW (goes _) rfl,
    writesLow_of_resultW (goes _) rfl, ?mtbpc,
    completes_of_advance (goes _) (frame_iab s _) rfl rfl, completes_of_advance (goes _) (frame_dab s _) rfl rfl,
    completes_of_advance (goes _) (frame_dabm s _) rfl rfl, completes_of_advance (goes _) (frame_dvb s _) rfl rfl,
    completes_of_advance (goes _) (frame_dvbm s _) rfl rfl, reads_mfpc usable (by decide) rfl, reads_mfpc usable (by decide) rfl,
    completes_of_advance (goes _) (frame_pcr0 s _) rfl rfl, completes_of_advance (goes _) (frame_pcr1 s _) rfl rfl,
    writesLow_of_resultW (goes _) rfl, ?mtps, fun noCounter => ?selector, fun noControl => ?control⟩
  case mtbpc =>
    split
    case isTrue armed => exact mtbpc_refused usable (bpc_armed armed)
    case isFalse unarmed => exact completes_mtbpc usable (bpc_unarmed unarmed)
  case mtps =>
    split
    case isTrue counts => exact mtps_refused usable counts
    case isFalse still => exact completes_mtps usable still
  case selector =>
    simp only [List.forall_mem_cons]
    exact ⟨(goes _).trans (if_pos noCounter), (goes _).trans (if_pos noCounter), nofun⟩
  case control =>
    simp only [List.forall_mem_cons]
    exact ⟨(goes _).trans (if_neg noControl), (goes _).trans (if_neg noControl), nofun⟩

end Sys2Proof.Machine
end

section
/-! PROOF. Floating point: the moves, the flags of the arithmetic, the comparisons (47_fpu.md; log entries 10, 11, 30). -/

namespace Sys2Proof.Machine

/-! ## Registers and control register -/

theorem readF_writeF_same (s : State) (r : Reg) (v : Word) : (s.writeF r v).readF r = v := by
  rw [readF_writeF, if_pos rfl]

theorem frame_fcr31 (s : State) (w : Word) : Frame s { s with fcr31 := w } (· ∈ [.fcr31]) :=
  .of_ne (fun v hv => by cases v with | fcr31 => exact absurd rfl hv | _ => rfl) rfl rfl

theorem frame_acc (s : State) (w : Word) : Frame s { s with acc := w } (· ∈ [.acc]) :=
  .of_ne (fun v hv => by cases v with | acc => exact absurd rfl hv | _ => rfl) rfl rfl

/-- An instruction that writes a floating-point register. -/
theorem completes_writeF {i : Instr} {s : State} {fd : Reg} {v : Word} (h : exec i s = .next (s.writeF fd v).advance) :
    Completes i s [.fpr fd] fun t => t.readF fd = v :=
  completes_of_advance h (frame_writeF s fd v) rfl ((readF_advance _ _).trans (readF_writeF_same s fd v))

/-- Settles O46: one move at a time, CFC1 and CTC1 by the number they name. -/
theorem floatingPointMovesCopy : Obligations.FloatingPointMovesCopy := by
  unfold Obligations.FloatingPointMovesCopy
  intro s rt fs fd usable
  have goes (k : Result) := withCop1_usable usable k
  refine ⟨writesLow_of_resultW (goes _) rfl, completes_writeF (goes _), completes_writeF (goes _), ?cfc1Control, ?cfc1Id,
    fun notId notControl => ?cfc1Free, ?ctc1Control, fun notControl => ?ctc1Ignored, completes_writeF (goes _),
    completes_writeF (goes _)⟩
  case cfc1Control => exact writesLow_of_resultW ((goes _).trans ((if_neg (by decide)).trans (if_pos rfl))) rfl
  case cfc1Id => exact writesLow_of_resultW ((goes _).trans (if_pos rfl)) rfl
  case cfc1Free => exact completes_of_drawn ((goes _).trans ((if_neg notId).trans (if_neg notControl)))
  case ctc1Control => exact completes_of_advance ((goes _).trans (if_pos rfl)) (frame_fcr31 s _) rfl rfl
  case ctc1Ignored => exact onlyAdvances_of_next ((goes _).trans (if_neg notControl))

/-! ## Flags (47_fpu.md R351) -/

/-- Bit `j` of a word after `stick`. -/
theorem getLsbD_stick (w : Word) (k j : Nat) (b : Bool) (hk : k < 32) :
    (stick w k b).getLsbD j = if j = k then w.getLsbD k || b else w.getLsbD j := by
  unfold stick
  cases b with
  | true => rw [if_pos rfl, getLsbD_setBit w k j true hk, Bool.or_true]
  | false =>
    rw [if_neg Bool.false_ne_true, Bool.or_false]
    split
    · rename_i same
      rw [same]
    · rfl

/-- The bits of FCR31 after two flags were written and two sticky flags were raised, at four different places. -/
theorem getLsbD_flags (w : Word) (a b c d : Nat) (x y : Bool) (ha : a < 32) (hb : b < 32) (hc : c < 32) (hd : d < 32)
    (different : [a, b, c, d].Nodup) (k : Nat) :
    (stick (stick (setBit (setBit w a x) b y) c x) d y).getLsbD k =
      if k = a then x else if k = b then y else if k = c then w.getLsbD c || x else if k = d then w.getLsbD d || y
      else w.getLsbD k := by
  simp only [List.nodup_cons, List.mem_cons, List.not_mem_nil, or_false, not_or] at different
  obtain ⟨⟨hab, hac, had⟩, ⟨hbc, hbd⟩, hcd, -⟩ := different
  simp only [getLsbD_stick _ d _ _ hd, getLsbD_stick _ c _ _ hc, getLsbD_setBit _ b _ _ hb, getLsbD_setBit _ a _ _ ha]
  by_cases ka : k = a
  · simp [ka, hab, hac, had]
  · by_cases kb : k = b
    · simp [kb, hbc, hbd, Ne.symm hab]
    · by_cases kc : k = c
      · simp [kc, hcd, Ne.symm hac, Ne.symm hbc]
      · simp [ka, kb, kc, Ne.symm had, Ne.symm hbd, Ne.symm hcd]

theorem getLsbD_setFlagsOU (w : Word) (fl : FpFlags) (k : Nat) : (setFlagsOU w fl).getLsbD k =
    if k = 15 then fl.overflow else if k = 14 then fl.underflow else if k = 4 then w.getLsbD 4 || fl.overflow
    else if k = 3 then w.getLsbD 3 || fl.underflow else w.getLsbD k :=
  getLsbD_flags w 15 14 4 3 _ _ (by decide) (by decide) (by decide) (by decide) (by decide) k

theorem getLsbD_setFlagsID (w : Word) (fl : FpFlags) (k : Nat) : (setFlagsID w fl).getLsbD k =
    if k = 17 then fl.invalid else if k = 16 then fl.divZero else if k = 6 then w.getLsbD 6 || fl.invalid
    else if k = 5 then w.getLsbD 5 || fl.divZero else w.getLsbD k :=
  getLsbD_flags w 17 16 6 5 _ _ (by decide) (by decide) (by decide) (by decide) (by decide) k

section
variable {i : Instr} {s : State} {fd : Reg} {r : Word × FpFlags}

theorem floatsOU_of_resultFpOU (h : exec i s = resultFpOU s fd r.1 r.2) : FloatsOU i s fd r :=
  completes_of_advance h ((frame_writeF s fd r.1).seq (frame_fcr31 _ _) (by simp) (by simp)) rfl
    ⟨readF_writeF_same s fd r.1, getLsbD_setFlagsOU s.fcr31 r.2⟩

theorem floatsID_of_resultFpID (h : exec i s = resultFpID s fd r.1 r.2) : FloatsID i s fd r :=
  completes_of_advance h ((frame_writeF s fd r.1).seq (frame_fcr31 _ _) (by simp) (by simp)) rfl
    ⟨readF_writeF_same s fd r.1, getLsbD_setFlagsID s.fcr31 r.2⟩

theorem accumulates_of_resultAccOU (h : exec i s = resultAccOU s r.1 r.2) : Accumulates i s r :=
  completes_of_advance h ((frame_acc s r.1).seq (frame_fcr31 _ _) (by simp) (by simp)) rfl
    ⟨rfl, getLsbD_setFlagsOU s.fcr31 r.2⟩
end

theorem getLsbD_and_clearSign (a : Word) (k : Nat) : (a &&& 0x7FFFFFFF).getLsbD k = (a.getLsbD k && decide (k ≠ 31)) := by
  have clear := getLsbD_and_not a 0x80000000 [31] (by decide) k
  simp only [List.mem_singleton] at clear
  exact clear

theorem getLsbD_xor_sign (a : Word) (k : Nat) (hk : k < 32) :
    (a ^^^ 0x80000000).getLsbD k = (a.getLsbD k != decide (k = 31)) := by
  have sign : (0x80000000 : Word).getLsbD k = decide (k = 31) :=
    (by decide : ∀ j : Fin 32, (0x80000000 : Word).getLsbD j = decide (j.val = 31)) ⟨k, hk⟩
  rw [BitVec.getLsbD_xor, sign]

/-- Settles O47: each result through its shared operation. -/
theorem floatingPointArithmeticWritesItsFlags : Obligations.FloatingPointArithmeticWritesItsFlags := by
  unfold Obligations.FloatingPointArithmeticWritesItsFlags
  intro s ft fs fd usable
  have goes (k : Result) := withCop1_usable usable k
  exact ⟨floatsOU_of_resultFpOU (goes _), floatsOU_of_resultFpOU (goes _), floatsOU_of_resultFpOU (goes _),
    floatsID_of_resultFpID (goes _), floatsID_of_resultFpID (goes _), floatsID_of_resultFpID (goes _),
    ⟨_, floatsOU_of_resultFpOU (goes _), fmax_eq_or _ _⟩, ⟨_, floatsOU_of_resultFpOU (goes _), fmin_eq_or _ _⟩,
    floatsOU_of_resultFpOU (goes _), floatsOU_of_resultFpOU (goes _),
    accumulates_of_resultAccOU (goes _), accumulates_of_resultAccOU (goes _), accumulates_of_resultAccOU (goes _),
    accumulates_of_resultAccOU (goes _), ⟨_, floatsOU_of_resultFpOU (goes _), getLsbD_and_clearSign _⟩,
    ⟨_, floatsOU_of_resultFpOU (goes _), getLsbD_xor_sign _⟩⟩

/-! ## Comparisons -/

theorem compares_of_setCondition {i : Instr} {s : State} {c : Bool} (h : exec i s = setCondition s c) : Compares i s c :=
  completes_of_advance h (frame_fcr31 s _) rfl fun k => getLsbD_setBit _ 23 k c (by decide)

/-- The exponent field of a normal number, in numbers. -/
theorem fpNormal_iff (v : Word) :
    fpNormal v = true ↔ 1 ≤ (v.toNat / 2 ^ 23) % 256 ∧ (v.toNat / 2 ^ 23) % 256 ≤ 254 := by
  have exponent : (v.extractLsb' 23 8).toNat = (v.toNat / 2 ^ 23) % 256 := by
    rw [BitVec.extractLsb'_toNat, Nat.shiftRight_eq_div_pow]
  rw [fpNormal, Bool.and_eq_true, bne_iff_ne, bne_iff_ne, ne_eq, ne_eq, ← BitVec.toNat_inj, ← BitVec.toNat_inj, exponent]
  simp only [BitVec.ofNat_eq_ofNat, BitVec.toNat_ofNat]
  omega

/-- Sign and magnitude, in numbers. -/
theorem fpKey_eq (v : Word) :
    fpKey v = (if v.getLsbD 31 then -(v.toNat % 2 ^ 31 : Nat) else (v.toNat % 2 ^ 31 : Nat) : Int) := by
  have magnitude : (v.extractLsb' 0 31).toNat = v.toNat % 2 ^ 31 := by
    rw [BitVec.extractLsb'_toNat, Nat.shiftRight_zero]
  rw [fpKey, magnitude]

/-- A normal number has a key of its own: its magnitude is not 0. -/
theorem eq_of_fpKey_eq {a b : Word} (ha : fpNormal a = true) (h : fpKey a = fpKey b) : a = b := by
  rw [fpNormal_iff] at ha
  rw [fpKey_eq, fpKey_eq] at h
  have sign (v : Word) : v.getLsbD 31 = decide (v.toNat / 2 ^ 31 % 2 = 1) := Nat.testBit_eq_decide_div_mod_eq
  rw [sign a, sign b] at h
  have boundA := a.isLt
  have boundB := b.isLt
  apply BitVec.eq_of_toNat_eq
  simp only [decide_eq_true_eq] at h
  split at h <;> split at h <;> omega

/-- `feq` of normal numbers compares their keys. -/
theorem feq_iff_of_normal {a b : Word} (ha : fpNormal a = true) (hb : fpNormal b = true) :
    feq a b = true ↔ fpKey a = fpKey b := by
  rw [feq, ha, hb]
  by_cases same : a = b
  · simp [same]
  · simp [same, mt (eq_of_fpKey_eq ha) same]

/-- `flt` of normal numbers compares their keys. -/
theorem flt_iff_of_normal {a b : Word} (ha : fpNormal a = true) (hb : fpNormal b = true) :
    flt a b = true ↔ fpKey a < fpKey b := by
  rw [flt, ha, hb]
  simp

/-- Settles O48: the two comparisons `feq` and `flt`. -/
theorem floatingPointComparesWriteC : Obligations.FloatingPointComparesWriteC := by
  unfold Obligations.FloatingPointComparesWriteC
  intro s ft fs usable
  have goes (k : Result) := withCop1_usable usable k
  refine ⟨compares_of_setCondition (goes _), feq (s.readF fs) (s.readF ft), flt (s.readF fs) (s.readF ft),
    compares_of_setCondition (goes _), compares_of_setCondition (goes _), compares_of_setCondition (goes _), fun same => if_pos same,
    fun ha hb => ?_⟩
  have equal := feq_iff_of_normal ((fpNormal_iff _).mpr ha) ((fpNormal_iff _).mpr hb)
  have less := flt_iff_of_normal ((fpNormal_iff _).mpr ha) ((fpNormal_iff _).mpr hb)
  rw [fpKey_eq, fpKey_eq] at equal less
  exact ⟨equal, less⟩

end Sys2Proof.Machine
end

section
/-! PROOF. Parallel arithmetic, comparisons, logic and shifts, lane by lane (48_parallel_arith.md). -/

namespace Sys2Proof.Machine

/-! ## Lanes in numbers -/

theorem clamp_eq_max_min {lo hi : Int} (h : lo ≤ hi) (i : Int) : clamp lo hi i = max lo (min i hi) := by
  unfold clamp
  split
  · omega
  · split
    · omega
    · omega

theorem satS_eq (n : Nat) (i : Int) : satS n i = BitVec.ofInt n (clamp (-2 ^ (n - 1)) (2 ^ (n - 1) - 1) i) := by
  have positive : (0 : Int) < 2 ^ (n - 1) := by positivity
  rw [satS, clamp_eq_max_min (by omega)]

theorem satU_eq (n : Nat) (i : Int) : satU n i = BitVec.ofInt n (clamp 0 (2 ^ n - 1) i) := by
  have positive : (0 : Int) < 2 ^ n := by positivity
  rw [satU, clamp_eq_max_min (by omega)]

theorem absSat_eq (n : Nat) (v : BitVec n) : absSat n v = BitVec.ofInt n (min (v.toInt.natAbs : Int) (2 ^ (n - 1) - 1)) := by
  have positive : (0 : Int) < 2 ^ (n - 1) := by positivity
  rw [absSat, satS, max_eq_right (le_min (by omega) (by omega))]

section
variable {n : Nat} (x y : BitVec n)

theorem max_eq_ofInt : (if y.slt x then x else y) = BitVec.ofInt n (max x.toInt y.toInt) := by
  simp only [BitVec.slt_iff_toInt_lt]
  split
  · rename_i less
    rw [max_eq_left less.le, BitVec.ofInt_toInt]
  · rename_i notLess
    rw [max_eq_right (not_lt.mp notLess), BitVec.ofInt_toInt]

theorem min_eq_ofInt : (if x.slt y then x else y) = BitVec.ofInt n (min x.toInt y.toInt) := by
  simp only [BitVec.slt_iff_toInt_lt]
  split
  · rename_i less
    rw [min_eq_left less.le, BitVec.ofInt_toInt]
  · rename_i notLess
    rw [min_eq_right (not_lt.mp notLess), BitVec.ofInt_toInt]

theorem maskLane_eq (c : Bool) : maskLane n c = BitVec.ofInt n (if c then -1 else 0) := by
  cases c with
  | true => exact (BitVec.neg_one_eq_allOnes (w := n)).symm.trans (by rw [if_pos rfl, BitVec.ofInt_neg]; rfl)
  | false => simp [maskLane]

theorem maskLane_equal : maskLane n (decide (x = y)) = BitVec.ofInt n (if x.toInt = y.toInt then -1 else 0) := by
  rw [maskLane_eq]
  simp only [decide_eq_true_eq, BitVec.toInt_inj]

theorem maskLane_greater : maskLane n (y.slt x) = BitVec.ofInt n (if x.toInt > y.toInt then -1 else 0) := by
  rw [maskLane_eq]
  simp only [BitVec.slt_iff_toInt_lt, gt_iff_lt]
end

/-! ## Sums and differences -/

/-- A lane of PADSBH. -/
theorem sub_or_add_eq_ofInt {n : Nat} (x y : BitVec n) (k : Nat) : (if k < 4 then x - y else x + y) =
    BitVec.ofInt n (if k ≤ 3 then x.toInt - y.toInt else x.toInt + y.toInt) := by
  by_cases lower : k < 4
  · rw [if_pos lower, if_pos (by omega), sub_eq_ofInt]
  · rw [if_neg lower, if_neg (by omega), add_eq_ofInt]

/-- Settles O50: each lane by the lemma of its kind. -/
theorem parallelSumsWrapOrSaturate : Obligations.ParallelSumsWrapOrSaturate := by
  unfold Obligations.ParallelSumsWrapOrSaturate
  intro s rs rt rd
  refine ⟨?paddb, ?paddh, ?paddw, ?psubb, ?psubh, ?psubw, ?paddsb, ?paddsh, ?paddsw, ?psubsb, ?psubsh, ?psubsw, ?paddub,
    ?padduh, ?padduw, ?psubub, ?psubuh, ?psubuw, ?padsbh⟩
  case paddb => exact writesLanes_bytes16 rfl fun _ _ => add_eq_ofInt _ _
  case paddh => exact writesLanes_halves8 rfl fun _ _ => add_eq_ofInt _ _
  case paddw => exact writesLanes_words4 rfl fun _ _ => add_eq_ofInt _ _
  case psubb => exact writesLanes_bytes16 rfl fun _ _ => sub_eq_ofInt _ _
  case psubh => exact writesLanes_halves8 rfl fun _ _ => sub_eq_ofInt _ _
  case psubw => exact writesLanes_words4 rfl fun _ _ => sub_eq_ofInt _ _
  case paddsb => exact writesLanes_bytes16 rfl fun _ _ => satS_eq 8 _
  case paddsh => exact writesLanes_halves8 rfl fun _ _ => satS_eq 16 _
  case paddsw => exact writesLanes_words4 rfl fun _ _ => satS_eq 32 _
  case psubsb => exact writesLanes_bytes16 rfl fun _ _ => satS_eq 8 _
  case psubsh => exact writesLanes_halves8 rfl fun _ _ => satS_eq 16 _
  case psubsw => exact writesLanes_words4 rfl fun _ _ => satS_eq 32 _
  case paddub => exact writesLanes_bytes16 rfl fun _ _ => satU_eq 8 _
  case padduh => exact writesLanes_halves8 rfl fun _ _ => satU_eq 16 _
  case padduw => exact writesLanes_words4 rfl fun _ _ => satU_eq 32 _
  case psubub => exact writesLanes_bytes16 rfl fun _ _ => satU_eq 8 _
  case psubuh => exact writesLanes_halves8 rfl fun _ _ => satU_eq 16 _
  case psubuw => exact writesLanes_words4 rfl fun _ _ => satU_eq 32 _
  case padsbh => exact writesLanes_halves8 rfl fun k _ => sub_or_add_eq_ofInt _ _ k

/-! ## Absolute values, extremes, comparisons -/

/-- Settles O51. -/
theorem parallelComparesSelect : Obligations.ParallelComparesSelect := by
  unfold Obligations.ParallelComparesSelect
  intro s rs rt rd
  refine ⟨?pabsh, ?pabsw, ?pmaxh, ?pmaxw, ?pminh, ?pminw, ?pceqb, ?pceqh, ?pceqw, ?pcgtb, ?pcgth, ?pcgtw⟩
  case pabsh => exact writesLanes_halves8 rfl fun _ _ => absSat_eq 16 _
  case pabsw => exact writesLanes_words4 rfl fun _ _ => absSat_eq 32 _
  case pmaxh => exact writesLanes_halves8 rfl fun _ _ => max_eq_ofInt _ _
  case pmaxw => exact writesLanes_words4 rfl fun _ _ => max_eq_ofInt _ _
  case pminh => exact writesLanes_halves8 rfl fun _ _ => min_eq_ofInt _ _
  case pminw => exact writesLanes_words4 rfl fun _ _ => min_eq_ofInt _ _
  case pceqb => exact writesLanes_bytes16 rfl fun _ _ => maskLane_equal _ _
  case pceqh => exact writesLanes_halves8 rfl fun _ _ => maskLane_equal _ _
  case pceqw => exact writesLanes_words4 rfl fun _ _ => maskLane_equal _ _
  case pcgtb => exact writesLanes_bytes16 rfl fun _ _ => maskLane_greater _ _
  case pcgth => exact writesLanes_halves8 rfl fun _ _ => maskLane_greater _ _
  case pcgtw => exact writesLanes_words4 rfl fun _ _ => maskLane_greater _ _

/-! ## Logic and shifts -/

theorem readQ_writeQ_same (s : State) (r : Reg) (q : Quad) : (s.writeQ r q).readQ r = afterWrite r q := by
  rw [readQ_writeQ, if_pos rfl]
  rfl

/-- What `resultQ` does, bit by bit. -/
theorem completes_bits_of_resultQ {i : Instr} {s : State} {rd : Reg} {q : Quad} {f : Nat → Bool} (h : exec i s = resultQ s rd q)
    (hq : ∀ k, k < 128 → q.getLsbD k = f k) :
    Completes i s [.gprLow rd, .gprHigh rd] fun t => ∀ k, k < 128 → (t.readQ rd).getLsbD k = (decide (rd ≠ 0) && f k) := by
  refine completes_of_advance h (frame_writeQ s rd q) rfl fun k hk => ?_
  rw [readQ_advance, readQ_writeQ_same, getLsbD_afterWrite, hq k hk]

/-- What `resultQ` of two doublewords does. -/
theorem writesLanes_joinD {i : Instr} {s : State} {rd : Reg} {hi lo : Dword} {f : Nat → Dword}
    (h : exec i s = resultQ s rd (joinD hi lo)) (low : lo = f 0) (high : hi = f 1) : WritesLanes 64 2 i s rd f := by
  refine writesLanes_of_resultQ h fun k hk => ?_
  obtain rfl | rfl : k = 0 ∨ k = 1 := by omega
  · exact (lowD_joinD hi lo).trans low
  · exact (highD_joinD hi lo).trans high

theorem laneAmount_eq (q : Quad) (k : Nat) : laneAmount q k = (lane 32 q k).toNat % 32 := by
  rw [laneAmount, BitVec.extractLsb'_toNat, Nat.shiftRight_zero]

/-- Settles O52. -/
theorem parallelLogicAndShifts : Obligations.ParallelLogicAndShifts := by
  unfold Obligations.ParallelLogicAndShifts
  intro s rs rt rd sa
  refine ⟨?pand, ?pxor, ?pnor, ?psllh, ?psrlh, ?psrah, ?psllw, ?psrlw, ?psraw, ?psllvw, ?psrlvw, ?psravw⟩
  case pand => exact completes_bits_of_resultQ rfl fun _ _ => BitVec.getLsbD_and
  case pxor => exact completes_bits_of_resultQ rfl fun _ _ => BitVec.getLsbD_xor
  case pnor =>
    refine completes_bits_of_resultQ rfl fun k hk => ?_
    rw [BitVec.getLsbD_not, BitVec.getLsbD_or, decide_eq_true hk, Bool.true_and]
  case psllh => exact writesLanes_halves8 rfl fun _ _ => shiftLeft_eq_ofNat _ _
  case psrlh => exact writesLanes_halves8 rfl fun _ _ => ushiftRight_eq_ofNat _ _
  case psrah => exact writesLanes_halves8 rfl fun _ _ => sshiftRight_eq_ofInt _ _
  case psllw => exact writesLanes_words4 rfl fun _ _ => shiftLeft_eq_ofNat _ _
  case psrlw => exact writesLanes_words4 rfl fun _ _ => ushiftRight_eq_ofNat _ _
  case psraw => exact writesLanes_words4 rfl fun _ _ => sshiftRight_eq_ofInt _ _
  case psllvw =>
    exact writesLanes_joinD rfl (by rw [laneAmount_eq, sext64_shiftLeft]) (by rw [laneAmount_eq, sext64_shiftLeft])
  case psrlvw =>
    exact writesLanes_joinD rfl (by rw [laneAmount_eq, sext64_ushiftRight]) (by rw [laneAmount_eq, sext64_ushiftRight])
  case psravw =>
    exact writesLanes_joinD rfl (by rw [laneAmount_eq, sext64_sshiftRight]) (by rw [laneAmount_eq, sext64_sshiftRight])

end Sys2Proof.Machine
end

section
/-! PROOF. Parallel products and quotients, and the moves of HI and LO (49_parallel_muldiv_pack.md sections 1 to 3,
43_muldiv_hilo.md section 3). -/

namespace Sys2Proof.Machine

/-! ## Parts of a written register -/

theorem lowD_afterWrite (r : Reg) (q : Quad) : lowD (afterWrite r q) = afterWrite r (lowD q) := by
  unfold afterWrite
  split
  · exact lowD_zero
  · rfl

theorem highD_afterWrite (r : Reg) (q : Quad) : highD (afterWrite r q) = afterWrite r (highD q) := by
  unfold afterWrite
  split
  · exact highD_zero
  · rfl

theorem lane_afterWrite (w : Nat) (r : Reg) (q : Quad) (k : Nat) : lane w (afterWrite r q) k = afterWrite r (lane w q k) := by
  unfold afterWrite
  split
  · exact lane_zero w k
  · rfl

/-- HI and LO, then a register: what the parallel products write. -/
theorem frame_writeHiLoQ_writeQ (s : State) (h l q : Quad) (rd : Reg) : Frame s ((s.writeHiLoQ h l).writeQ rd q)
    (· ∈ [.gprLow rd, .gprHigh rd, .hiLow, .hiHigh, .loLow, .loHigh]) :=
  (frame_writeHiLoQ s h l).seq (frame_writeQ _ rd q) (by simp) (by simp)

/-! ## Word products -/

/-- What `resultMulPair` does. -/
theorem multipliesPair_of_resultMulPair {i : Instr} {s : State} {rd : Reg} {d0 d1 : Dword} {p0 p1 : Int}
    (h : exec i s = resultMulPair s rd d0 d1) (h0 : d0 = BitVec.ofInt 64 p0) (h1 : d1 = BitVec.ofInt 64 p1) :
    MultipliesPair i s rd p0 p1 := by
  subst h0 h1
  refine completes_of_advance h (frame_writeHiLoQ_writeQ s _ _ _ rd) rfl ⟨?lo0, ?hi0, ?lo1, ?hi1, ?rd0, ?rd1⟩
  case lo0 => exact (lowD_joinD _ _).trans (sext64_lowW_ofInt p0)
  case hi0 => exact (lowD_joinD _ _).trans (sext64_highW_ofInt p0)
  case lo1 => exact (highD_joinD _ _).trans (sext64_lowW_ofInt p1)
  case hi1 => exact (highD_joinD _ _).trans (sext64_highW_ofInt p1)
  case rd0 => rw [readD_advance, State.readD, readQ_writeQ_same, lowD_afterWrite, lowD_joinD]
  case rd1 => rw [readQ_advance, readQ_writeQ_same, highD_afterWrite, highD_joinD]

theorem accumulator_sub_sext64_mul (s : State) (k : Nat) (a b : Word) :
    s.accumulator k - sext64 a * sext64 b = BitVec.ofInt 64 (accumulated s k - a.toInt * b.toInt) := by
  rw [accumulator_eq_ofInt, sext64_mul, ofInt_sub]

/-- Settles O53: two products modulo 2^64. -/
theorem parallelWordProducts : Obligations.ParallelWordProducts := by
  unfold Obligations.ParallelWordProducts
  intro s rs rt rd
  exact ⟨multipliesPair_of_resultMulPair rfl (sext64_mul _ _) (sext64_mul _ _),
    multipliesPair_of_resultMulPair rfl (zext64_mul _ _) (zext64_mul _ _),
    multipliesPair_of_resultMulPair rfl (accumulator_add_sext64_mul _ _ _ _) (accumulator_add_sext64_mul _ _ _ _),
    multipliesPair_of_resultMulPair rfl (accumulator_add_zext64_mul _ _ _ _) (accumulator_add_zext64_mul _ _ _ _),
    multipliesPair_of_resultMulPair rfl (accumulator_sub_sext64_mul _ _ _ _) (accumulator_sub_sext64_mul _ _ _ _)⟩

/-! ## Halfword products -/

theorem halfProduct_eq (s : State) (rs rt : Reg) (k : Nat) :
    halfProduct (s.readQ rs) (s.readQ rt) k = BitVec.ofInt 32 (halves s rs rt k) :=
  (BitVec.ofInt_mul _ _).symm

/-- The slots of HI and LO in their order (49_parallel_muldiv_pack.md R460). -/
def slotList (s : State) : List Word :=
  [lane 32 s.lo 0, lane 32 s.lo 1, lane 32 s.hi 0, lane 32 s.hi 1, lane 32 s.lo 2, lane 32 s.lo 3, lane 32 s.hi 2,
    lane 32 s.hi 3]

theorem slot_eq_getD (s : State) (k : Nat) (hk : k < 8) : s.slot k = (slotList s).getD k 0 := by
  interval_cases k <;> rfl

/-- What `resultSlots` does. -/
theorem fillsSlots_of_resultSlots {i : Instr} {s : State} {rd : Reg} {w : Nat → Word} {p : Nat → Int}
    (h : exec i s = resultSlots s rd w) (hw : ∀ k, k < 8 → w k = BitVec.ofInt 32 (p k)) : FillsSlots i s rd p := by
  refine completes_of_advance h (frame_writeHiLoQ_writeQ s _ _ _ rd) rfl
    ⟨?lo0, ?lo1, ?hi0, ?hi1, ?lo2, ?lo3, ?hi2, ?hi3, fun k hk => ?rd⟩
  case lo0 => exact (lane_words4 _ 0 (by decide)).trans (hw 0 (by decide))
  case lo1 => exact (lane_words4 _ 1 (by decide)).trans (hw 1 (by decide))
  case hi0 => exact (lane_words4 _ 0 (by decide)).trans (hw 2 (by decide))
  case hi1 => exact (lane_words4 _ 1 (by decide)).trans (hw 3 (by decide))
  case lo2 => exact (lane_words4 _ 2 (by decide)).trans (hw 4 (by decide))
  case lo3 => exact (lane_words4 _ 3 (by decide)).trans (hw 5 (by decide))
  case hi2 => exact (lane_words4 _ 2 (by decide)).trans (hw 6 (by decide))
  case hi3 => exact (lane_words4 _ 3 (by decide)).trans (hw 7 (by decide))
  case rd => rw [readQ_advance, readQ_writeQ_same, lane_afterWrite, lane_words4 _ k hk, hw (2 * k) (by omega)]

/-- What `resultHorizontal` does. -/
theorem fillsEvenSlots_of_resultHorizontal {i : Instr} {s : State} {rd : Reg} {w : Nat → Word} {q : Nat → Int}
    (h : exec i s = resultHorizontal s rd w) (hw : ∀ k, w k = BitVec.ofInt 32 (q k)) : FillsEvenSlots i s rd q := by
  refine completes_of_advance h (((frame_writeHiLoQ_writeQ s _ _ _ rd).seq (frame_draw _) (by simp) (by simp))) rfl
    ⟨?lo0, ?hi0, ?lo2, ?hi2, fun k hk => ?rd, rfl⟩
  case lo0 => exact (lane_words4 _ 0 (by decide)).trans (hw 0)
  case hi0 => exact (lane_words4 _ 0 (by decide)).trans (hw 1)
  case lo2 => exact (lane_words4 _ 2 (by decide)).trans (hw 2)
  case hi2 => exact (lane_words4 _ 2 (by decide)).trans (hw 3)
  case rd =>
    show lane 32 (State.readQ ((s.writeHiLoQ _ _).writeQ rd (words4 w)) rd) k = _
    rw [readQ_writeQ_same, lane_afterWrite, lane_words4 _ k hk, hw k]

theorem slot_add_halfProduct (s : State) (rs rt : Reg) (k : Nat) (hk : k < 8) :
    s.slot k + halfProduct (s.readQ rs) (s.readQ rt) k =
      BitVec.ofInt 32 (((slotList s).getD k 0).toInt + halves s rs rt k) := by
  rw [slot_eq_getD s k hk, halfProduct_eq, BitVec.ofInt_add, BitVec.ofInt_toInt]

theorem slot_sub_halfProduct (s : State) (rs rt : Reg) (k : Nat) (hk : k < 8) :
    s.slot k - halfProduct (s.readQ rs) (s.readQ rt) k =
      BitVec.ofInt 32 (((slotList s).getD k 0).toInt - halves s rs rt k) := by
  rw [slot_eq_getD s k hk, halfProduct_eq, ofInt_sub, BitVec.ofInt_toInt]

/-- Settles O54. -/
theorem parallelHalfwordProducts : Obligations.ParallelHalfwordProducts := by
  unfold Obligations.ParallelHalfwordProducts
  intro s rs rt rd
  have phmadh : exec (.phmadh rs rt rd) s = execPhmadh rs rt rd s := rfl
  have phmsbh : exec (.phmsbh rs rt rd) s = execPhmsbh rs rt rd s := rfl
  exact ⟨fillsSlots_of_resultSlots rfl fun k _ => halfProduct_eq s rs rt k,
    fillsSlots_of_resultSlots rfl (slot_add_halfProduct s rs rt), fillsSlots_of_resultSlots rfl (slot_sub_halfProduct s rs rt),
    fillsEvenSlots_of_resultHorizontal phmadh fun j => by rw [halfProduct_eq, halfProduct_eq, BitVec.ofInt_add],
    fillsEvenSlots_of_resultHorizontal phmsbh fun j => by rw [halfProduct_eq, halfProduct_eq, ofInt_sub]⟩

/-! ## Quotients -/

/-- What `resultDivPair` does. -/
theorem completes_of_resultDivPair {i : Instr} {s : State} {qr0 qr1 : Int × Int} {f : Nat → Int × Int}
    (h : exec i s = resultDivPair s qr0 qr1) (h0 : qr0 = f 0) (h1 : qr1 = f 1) :
    Completes i s [.hiLow, .hiHigh, .loLow, .loHigh] fun t => ∀ j, j < 2 →
      lane 64 t.lo j = signedWord (f j).1 ∧ lane 64 t.hi j = signedWord (f j).2 := by
  subst h0 h1
  refine completes_of_advance h (frame_writeHiLoQ s _ _) rfl fun j hj => ?_
  obtain rfl | rfl : j = 0 ∨ j = 1 := by omega
  · exact ⟨(lowD_joinD _ _).trans (sext64_ofInt _), (lowD_joinD _ _).trans (sext64_ofInt _)⟩
  · exact ⟨(highD_joinD _ _).trans (sext64_ofInt _), (highD_joinD _ _).trans (sext64_ofInt _)⟩

theorem tmod_eq_sub (n d : Int) : n.tmod d = n - n.tdiv d * d := by
  rw [Int.tmod_def, Int.mul_comm]

/-- The signed division, its remainder by the quotient. -/
theorem divSigned_eq_sub (n d : Word) : divSigned n d =
    if d.toInt = 0 then Config.divCorner .divByZero n.toInt d.toInt
    else if n.toInt = -2 ^ 31 ∧ d.toInt = -1 then Config.divCorner .divOverflow n.toInt d.toInt
    else (n.toInt.tdiv d.toInt, n.toInt - n.toInt.tdiv d.toInt * d.toInt) := by
  rw [divSigned_eq, tmod_eq_sub]

/-- The unsigned division in integers. -/
theorem divUnsigned_eq_int (n d : Word) : divUnsigned n d =
    if d.toNat = 0 then Config.divCorner .divuByZero n.toNat d.toNat
    else ((n.toNat : Int) / d.toNat, (n.toNat : Int) % d.toNat) := by
  rw [divUnsigned_eq, Int.natCast_ediv, Int.natCast_emod]

/-- The division of PDIVBW. -/
theorem divBroadcast_eq (n : Word) (d : Half) : divBroadcast n d =
    if d.toInt = 0 then Config.divCorner .pdivbwByZero n.toInt d.toInt
    else (n.toInt.tdiv d.toInt, n.toInt - n.toInt.tdiv d.toInt * d.toInt) := by
  simp only [divBroadcast, toInt_eq_zero_iff, tmod_eq_sub]

theorem signExtend_ofInt_half (r : Int) : (BitVec.ofInt 16 r).signExtend 32 = BitVec.ofInt 32 (r.bmod (2 ^ 16)) := by
  rw [← BitVec.toInt_ofInt]
  rfl

/-- Settles O55. -/
theorem parallelDivides : Obligations.ParallelDivides := by
  unfold Obligations.ParallelDivides
  intro s rs rt
  refine ⟨completes_of_resultDivPair rfl (divSigned_eq_sub _ _) (divSigned_eq_sub _ _),
    completes_of_resultDivPair rfl (divUnsigned_eq_int _ _) (divUnsigned_eq_int _ _), ?pdivbw⟩
  case pdivbw =>
    refine completes_of_advance rfl (frame_writeHiLoQ s _ _) rfl fun k hk => ⟨?quotient, ?remainder⟩
    case quotient => exact (lane_words4 _ k hk).trans (congrArg (fun qr => truncW qr.1) (divBroadcast_eq _ _))
    case remainder =>
      refine (lane_words4 _ k hk).trans ((signExtend_ofInt_half _).trans ?_)
      exact congrArg (fun qr : Int × Int => BitVec.ofInt 32 (qr.2.bmod (2 ^ 16))) (divBroadcast_eq _ _)

/-! ## Moves of HI and LO -/

section
variable (s : State)

theorem frame_hiLow (d : Dword) : Frame s { s with hi := withLowD s.hi d } (· ∈ [.hiLow]) :=
  .of_ne (fun v hv => by
    cases v with
    | hiLow => exact absurd rfl hv
    | hiHigh => exact congrArg BitVec.toNat (highD_withLowD s.hi d)
    | _ => rfl) rfl rfl

theorem frame_loLow (d : Dword) : Frame s { s with lo := withLowD s.lo d } (· ∈ [.loLow]) :=
  .of_ne (fun v hv => by
    cases v with
    | loLow => exact absurd rfl hv
    | loHigh => exact congrArg BitVec.toNat (highD_withLowD s.lo d)
    | _ => rfl) rfl rfl

theorem frame_hiHigh (d : Dword) : Frame s { s with hi := withHighD s.hi d } (· ∈ [.hiHigh]) :=
  .of_ne (fun v hv => by
    cases v with
    | hiHigh => exact absurd rfl hv
    | hiLow => exact congrArg BitVec.toNat (lowD_withHighD s.hi d)
    | _ => rfl) rfl rfl

theorem frame_loHigh (d : Dword) : Frame s { s with lo := withHighD s.lo d } (· ∈ [.loHigh]) :=
  .of_ne (fun v hv => by
    cases v with
    | loHigh => exact absurd rfl hv
    | loLow => exact congrArg BitVec.toNat (lowD_withHighD s.lo d)
    | _ => rfl) rfl rfl

theorem frame_hi (q : Quad) : Frame s { s with hi := q } (· ∈ [.hiLow, .hiHigh]) := by
  refine ⟨fun v hv => ?_, rfl, rfl⟩
  cases v with
  | hiLow => exact absurd (List.mem_cons_self ..) hv
  | hiHigh => exact absurd (List.mem_cons_of_mem _ (List.mem_singleton.mpr rfl)) hv
  | _ => rfl

theorem frame_lo (q : Quad) : Frame s { s with lo := q } (· ∈ [.loLow, .loHigh]) := by
  refine ⟨fun v hv => ?_, rfl, rfl⟩
  cases v with
  | loLow => exact absurd (List.mem_cons_self ..) hv
  | loHigh => exact absurd (List.mem_cons_of_mem _ (List.mem_singleton.mpr rfl)) hv
  | _ => rfl
end

/-- The accumulator as a signed doubleword. -/
theorem toInt_accumulator (s : State) (k : Nat) : (s.accumulator k).toInt = accumulated s k := by
  have high := word_bounds (lane 32 s.hi k)
  have low := (lane 32 s.lo k).isLt
  rw [accumulator_eq_ofInt, BitVec.toInt_ofInt]
  unfold accumulated
  exact Int.bmod_eq_of_le (by omega) (by omega)

/-- A word saturated and sign-extended. -/
theorem sext64_satS (i : Int) : sext64 (satS 32 i) = BitVec.ofInt 64 (clamp (-2 ^ 31) (2 ^ 31 - 1) i) := by
  rw [satS_eq, sext64_ofInt]
  refine signedWord_of_fits ?_
  rw [clamp_eq_max_min (by decide)]
  omega

/-- Settles O56. -/
theorem hiLoMovesKeepTheRest : Obligations.HiLoMovesKeepTheRest := by
  unfold Obligations.HiLoMovesKeepTheRest
  intro s rs rd
  refine ⟨writesLow_of_resultD rfl rfl, writesLow_of_resultD rfl rfl, writesLow_of_resultD rfl rfl,
    writesLow_of_resultD rfl rfl, completes_of_advance rfl (frame_hiLow s _) rfl (lowD_withLowD _ _),
    completes_of_advance rfl (frame_loLow s _) rfl (lowD_withLowD _ _),
    completes_of_advance rfl (frame_hiHigh s _) rfl (highD_withHighD _ _),
    completes_of_advance rfl (frame_loHigh s _) rfl (highD_withHighD _ _),
    writesLanes_of_resultQ rfl fun _ _ => rfl, writesLanes_of_resultQ rfl fun _ _ => rfl,
    completes_of_advance rfl (frame_hi s _) rfl rfl, completes_of_advance rfl (frame_lo s _) rfl rfl,
    ?pmfhlLw, ?pmfhlUw, ?pmfhlLh, ?pmfhlSh, ?pmfhlSlw, ?pmthlLw⟩
  case pmfhlLw => exact writesLanes_words4 rfl fun k hk => by interval_cases k <;> rfl
  case pmfhlUw => exact writesLanes_words4 rfl fun k hk => by interval_cases k <;> rfl
  case pmfhlLh => exact writesLanes_halves8 rfl fun k hk => congrArg (BitVec.setWidth 16) (slot_eq_getD s k hk)
  case pmfhlSh =>
    refine writesLanes_halves8 rfl fun k hk => ?_
    rw [slot_eq_getD s k hk]
    exact satS_eq 16 _
  case pmfhlSlw =>
    refine writesLanes_joinD rfl ?_ ?_
    · rw [sext64_satS, toInt_accumulator]
    · rw [sext64_satS, toInt_accumulator]
  case pmthlLw =>
    have lane4 (g : Nat → Word) {k : Nat} (hk : k < 4) : lane 32 (words4 g) k = g k := lane_words4 g k hk
    exact completes_of_advance rfl (frame_writeHiLoQ s _ _) rfl ⟨lane4 _ (by decide), lane4 _ (by decide), lane4 _ (by decide),
      lane4 _ (by decide), lane4 _ (by decide), lane4 _ (by decide), lane4 _ (by decide), lane4 _ (by decide)⟩

end Sys2Proof.Machine
end

section
/-! PROOF. Parallel permutations, pixel packing, the leading count and the shift amount register (49_parallel_muldiv_pack.md
sections 4 to 6). -/

namespace Sys2Proof.Machine

/-! ## Permutations -/

section
variable {i : Instr} {s : State} {rd : Reg} {sources : List (Reg × Nat)}

theorem shuffles_bytes16 {g : Nat → Byte} (length : sources.length = 16) (h : exec i s = resultQ s rd (bytes16 g))
    (hg : ∀ k, k < 16 → g k = lane 8 (s.readQ (sources.getD k (0, 0)).1) (sources.getD k (0, 0)).2) :
    Shuffles 8 16 i s rd sources := ⟨length, writesLanes_bytes16 h hg⟩

theorem shuffles_halves8 {g : Nat → Half} (length : sources.length = 8) (h : exec i s = resultQ s rd (halves8 g))
    (hg : ∀ k, k < 8 → g k = lane 16 (s.readQ (sources.getD k (0, 0)).1) (sources.getD k (0, 0)).2) :
    Shuffles 16 8 i s rd sources := ⟨length, writesLanes_halves8 h hg⟩

theorem shuffles_words4 {g : Nat → Word} (length : sources.length = 4) (h : exec i s = resultQ s rd (words4 g))
    (hg : ∀ k, k < 4 → g k = lane 32 (s.readQ (sources.getD k (0, 0)).1) (sources.getD k (0, 0)).2) :
    Shuffles 32 4 i s rd sources := ⟨length, writesLanes_words4 h hg⟩
end

/-- Settles O57: the source of each lane, lane number by lane number. -/
theorem parallelPermutationsPlaceLanes : Obligations.ParallelPermutationsPlaceLanes := by
  unfold Obligations.ParallelPermutationsPlaceLanes
  intro s rs rt rd
  refine ⟨?pextlb, ?pextub, ?pextlh, ?pextuh, ?pextlw, ?pextuw, ?ppacb, ?ppach, ?ppacw, ?pcpyh, ?pcpyld, ?pcpyud, ?pexch,
    ?pexcw, ?pexeh, ?pexew, ?pinth, ?pinteh, ?prevh, ?prot3w⟩
  case pextlb => exact shuffles_bytes16 rfl rfl fun k hk => by interval_cases k <;> rfl
  case pextub => exact shuffles_bytes16 rfl rfl fun k hk => by interval_cases k <;> rfl
  case pextlh => exact shuffles_halves8 rfl rfl fun k hk => by interval_cases k <;> rfl
  case pextuh => exact shuffles_halves8 rfl rfl fun k hk => by interval_cases k <;> rfl
  case pextlw => exact shuffles_words4 rfl rfl fun k hk => by interval_cases k <;> rfl
  case pextuw => exact shuffles_words4 rfl rfl fun k hk => by interval_cases k <;> rfl
  case ppacb => exact shuffles_bytes16 rfl rfl fun k hk => by interval_cases k <;> rfl
  case ppach => exact shuffles_halves8 rfl rfl fun k hk => by interval_cases k <;> rfl
  case ppacw => exact shuffles_words4 rfl rfl fun k hk => by interval_cases k <;> rfl
  case pcpyh => exact shuffles_halves8 rfl rfl fun k hk => by interval_cases k <;> rfl
  case pcpyld => exact ⟨rfl, writesLanes_joinD rfl rfl rfl⟩
  case pcpyud => exact ⟨rfl, writesLanes_joinD rfl rfl rfl⟩
  case pexch => exact shuffles_halves8 rfl rfl fun k hk => by interval_cases k <;> rfl
  case pexcw => exact shuffles_words4 rfl rfl fun k hk => by interval_cases k <;> rfl
  case pexeh => exact shuffles_halves8 rfl rfl fun k hk => by interval_cases k <;> rfl
  case pexew => exact shuffles_words4 rfl rfl fun k hk => by interval_cases k <;> rfl
  case pinth => exact shuffles_halves8 rfl rfl fun k hk => by interval_cases k <;> rfl
  case pinteh => exact shuffles_halves8 rfl rfl fun k hk => by interval_cases k <;> rfl
  case prevh => exact shuffles_halves8 rfl rfl fun k hk => by interval_cases k <;> rfl
  case prot3w => exact shuffles_words4 rfl rfl fun k hk => by interval_cases k <;> rfl

/-! ## Pixels -/

/-- Concatenated fields as a number. -/
theorem toNat_append_eq_add {n m : Nat} (x : BitVec n) (y : BitVec m) : (x ++ y).toNat = x.toNat * 2 ^ m + y.toNat := by
  rw [BitVec.toNat_append, ← Nat.shiftLeft_add_eq_or_of_lt y.isLt, Nat.shiftLeft_eq]

theorem toNat_field (w : Word) (lo n : Nat) : (w.extractLsb' lo n).toNat = w.toNat / 2 ^ lo % 2 ^ n := by
  rw [BitVec.extractLsb'_toNat, Nat.shiftRight_eq_div_pow]

theorem extend5_eq (w : Word) : extend5 w = BitVec.ofNat 32 (w.toNat % 2 ^ 5 * 2 ^ 3 + w.toNat / 2 ^ 5 % 2 ^ 5 * 2 ^ 11
    + w.toNat / 2 ^ 10 % 2 ^ 5 * 2 ^ 19 + w.toNat / 2 ^ 15 % 2 * 2 ^ 31) := by
  apply BitVec.eq_of_toNat_eq
  unfold extend5
  rw [toNat_append_eq_add, toNat_append_eq_add, toNat_append_eq_add, toNat_append_eq_add, toNat_append_eq_add,
    toNat_append_eq_add, toNat_append_eq_add]
  simp only [toNat_field, BitVec.toNat_ofNat]
  omega

theorem pack5_eq (w : Word) : pack5 w = BitVec.ofNat 32 (w.toNat / 2 ^ 3 % 2 ^ 5 + w.toNat / 2 ^ 11 % 2 ^ 5 * 2 ^ 5
    + w.toNat / 2 ^ 19 % 2 ^ 5 * 2 ^ 10 + w.toNat / 2 ^ 31 % 2 * 2 ^ 15) := by
  apply BitVec.eq_of_toNat_eq
  unfold pack5
  rw [toNat_append_eq_add, toNat_append_eq_add, toNat_append_eq_add, toNat_append_eq_add]
  simp only [toNat_field, BitVec.toNat_ofNat]
  omega

/-! ## The leading count -/

theorem runBelow_le (w : Word) : ∀ n, runBelow w n ≤ n
  | 0 => Nat.le_refl 0
  | n + 1 => by
    unfold runBelow
    split
    · exact Nat.succ_le_succ (runBelow_le w n)
    · exact Nat.zero_le _

/-- The bits of the run equal the sign bit. -/
theorem getLsbD_in_run (w : Word) : ∀ n j, j < runBelow w n → w.getLsbD (n - 1 - j) = w.getLsbD 31
  | 0, j, h => absurd h (Nat.not_lt_zero j)
  | n + 1, j, h => by
    unfold runBelow at h
    split at h
    · rename_i same
      cases j with
      | zero => exact same
      | succ j =>
        rw [show n + 1 - 1 - (j + 1) = n - 1 - j by omega]
        exact getLsbD_in_run w n j (Nat.lt_of_succ_lt_succ h)
    · exact absurd h (Nat.not_lt_zero j)

/-- The bit after the run differs from the sign bit. -/
theorem getLsbD_after_run (w : Word) : ∀ n, runBelow w n < n → w.getLsbD (n - 1 - runBelow w n) ≠ w.getLsbD 31
  | 0, h => absurd h (Nat.not_lt_zero _)
  | n + 1, h => by
    unfold runBelow at h ⊢
    split at h
    · rename_i same
      rw [if_pos same, show n + 1 - 1 - (runBelow w n + 1) = n - 1 - runBelow w n by omega]
      exact getLsbD_after_run w n (Nat.lt_of_succ_lt_succ h)
    · rename_i differs
      rw [if_neg differs]
      exact differs

theorem joinW_leadingRun (w1 w0 : Word) :
    joinW (leadingRun w1) (leadingRun w0) = BitVec.ofNat 64 (runBelow w0 31 + runBelow w1 31 * 2 ^ 32) := by
  have bound1 := runBelow_le w1 31
  have bound0 := runBelow_le w0 31
  apply BitVec.eq_of_toNat_eq
  rw [joinW, toNat_append_eq_add, leadingRun, leadingRun, BitVec.toNat_ofNat, BitVec.toNat_ofNat, BitVec.toNat_ofNat]
  omega

/-- Settles O58. -/
theorem pixelPackingAndLeadingCount : Obligations.PixelPackingAndLeadingCount := by
  unfold Obligations.PixelPackingAndLeadingCount
  intro s rs rt rd
  exact ⟨writesLanes_words4 rfl fun _ _ => extend5_eq _, writesLanes_words4 rfl fun _ _ => pack5_eq _,
    fun k => runBelow (lane 32 (s.readQ rs) k) 31, writesLow_of_resultD rfl (joinW_leadingRun _ _),
    fun k _ => ⟨runBelow_le _ 31, getLsbD_in_run _ 31, getLsbD_after_run _ 31⟩⟩

/-! ## The shift amount -/

theorem frame_sa (s : State) (k : BitVec 4) : Frame s { s with saBytes := k } (· ∈ [.sa]) :=
  .of_ne (fun v hv => by cases v with | sa => exact absurd rfl hv | _ => rfl) rfl rfl

theorem funnel_eq_ofNat (x y : Quad) (k : Nat) : ((x ++ y : BitVec 256) >>> k).setWidth 128 =
    BitVec.ofNat 128 ((x.toNat * 2 ^ 128 + y.toNat) / 2 ^ k) := by
  apply BitVec.eq_of_toNat_eq
  rw [BitVec.toNat_setWidth, BitVec.toNat_ushiftRight, toNat_append_eq_add, Nat.shiftRight_eq_div_pow, BitVec.toNat_ofNat]

/-- The low bits of a register or an immediate. -/
theorem toNat_lowBits {w : Nat} (x : BitVec w) (n : Nat) : (x.extractLsb' 0 n).toNat = x.toNat % 2 ^ n := by
  rw [BitVec.extractLsb'_toNat, Nat.shiftRight_zero]

/-- Settles O59. -/
theorem funnelShiftUsesTheShiftAmount : Obligations.FunnelShiftUsesTheShiftAmount := by
  unfold Obligations.FunnelShiftUsesTheShiftAmount
  intro s rs rt rd imm
  refine ⟨?qfsrv, completes_of_advance rfl (frame_sa s _) rfl ?mtsab, completes_of_advance rfl (frame_sa s _) rfl ?mtsah⟩
  case qfsrv =>
    refine writesLanes_of_resultQ rfl fun k hk => ?_
    obtain rfl : k = 0 := by omega
    exact (BitVec.extractLsb'_eq_self (x := _)).trans (funnel_eq_ofNat _ _ _)
  case mtsab =>
    show BitVec.toNat (_ ^^^ _) = _
    rw [BitVec.toNat_xor, toNat_lowBits, toNat_lowBits]
    rfl
  case mtsah =>
    show BitVec.toNat ((_ ^^^ _) ++ 0#1) = _
    rw [toNat_append_eq_add, BitVec.toNat_xor, toNat_lowBits, toNat_lowBits, Nat.mul_comm]
    rfl

/-! ## The images of the shift amount (log entry 12) -/

/-- Different values of SA have different images, whatever the table is. -/
theorem saImage_injective {j k : BitVec 4} (h : saImage j = saImage k) : j = k := by
  unfold saImage at h
  by_cases nodup : saTable.Nodup
  · rw [if_pos nodup, if_pos nodup] at h
    have same := List.inj_on_of_nodup_map nodup (List.mem_range.mpr j.isLt) (List.mem_range.mpr k.isLt)
      (by rw [BitVec.ofNat_toNat, BitVec.ofNat_toNat, BitVec.setWidth_eq, BitVec.setWidth_eq, h])
    exact BitVec.eq_of_toNat_eq same
  · rw [if_neg nodup, if_neg nodup] at h
    have same := congrArg (BitVec.setWidth 4) h
    rwa [BitVec.setWidth_setWidth_of_le _ (by decide), BitVec.setWidth_setWidth_of_le _ (by decide), BitVec.setWidth_eq,
      BitVec.setWidth_eq] at same

/-- The search finds what an image stands for. -/
theorem saSearch_saImage (k : BitVec 4) : ∀ n, k.toNat < n → saSearch (saImage k) n = some k
  | 0, h => absurd h (Nat.not_lt_zero _)
  | n + 1, h => by
    unfold saSearch
    split
    · rename_i found
      exact congrArg some (saImage_injective found)
    · rename_i other
      have notHere : k.toNat ≠ n := fun e => other (by rw [← e, BitVec.ofNat_toNat, BitVec.setWidth_eq])
      exact saSearch_saImage k n (by omega)

/-- The search finds nothing for a foreign value. -/
theorem saSearch_foreign {d : Dword} (foreign : ∀ k, d ≠ saImage k) : ∀ n, saSearch d n = none
  | 0 => rfl
  | n + 1 => (if_neg fun e => foreign _ e.symm).trans (saSearch_foreign foreign n)

theorem exec_mtsa_image {s : State} {rs : Reg} {k : BitVec 4} (h : s.readD rs = saImage k) :
    exec (.mtsa rs) s = .next (State.advance { s with saBytes := k }) := by
  show execMtsa rs s = _
  rw [execMtsa, saOfImage, h, saSearch_saImage k 16 k.isLt]

/-- Settles O60. -/
theorem shiftAmountIsSavedAndRestored : Obligations.ShiftAmountIsSavedAndRestored := by
  unfold Obligations.ShiftAmountIsSavedAndRestored
  refine ⟨saImage, fun j k => saImage_injective, fun s rd => writesLow_of_resultD rfl rfl, fun s rs k image => ?own,
    fun s rs foreign => ?foreign, fun s t u v r k nonzero saves changed restores => ?roundtrip⟩
  case own => exact completes_of_advance (exec_mtsa_image image) (frame_sa s k) rfl rfl
  case foreign =>
    have step : exec (.mtsa rs) s = execMtsa rs s := rfl
    rw [execMtsa, saOfImage, saSearch_foreign foreign 16] at step
    have frame := (frame_sa s (Config.mtsaForeign s.draws)).seq (frame_draw _) (c := [.sa, .draws]) (by simp) (by simp)
    exact completes_of_advance step frame rfl rfl
  case roundtrip =>
    injection saves with saved
    have holds : u.readD r = saImage s.saBytes := by
      rw [changed, ← saved]
      show (s.writeD r (saImage s.saBytes)).readD r = _
      rw [readD_writeD_same, afterWrite, if_neg nonzero]
    injection (exec_mtsa_image holds).symm.trans restores with restored
    rw [← restored]
    rfl

end Sys2Proof.Machine
end
